-- ==== Sys2Proof/Word.lean ====
section
/-!
DEFINITION. The word types of the block (spec/00_scope.md R6): a `u32` and a `u64` are bit vectors, whose addition
and multiplication wrap at the word width and whose right shift is logical (R7).
-/

namespace Sys2Proof

/-- A byte of the host's input (spec/00_scope.md R8). -/
abbrev Byte := BitVec 8

/-- The `u32` of spec/00_scope.md R6. -/
abbrev Word32 := BitVec 32

/-- The `u64` of spec/00_scope.md R6: the width of every operand field and result register. -/
abbrev Word64 := BitVec 64

end Sys2Proof
end

