-- ==== Sys2Proof/Config.lean ====
section
/-!
DEFINITION. What the spec leaves open: the named parameters a block is built with, the unspecified values it holds while
they describe no response, and the latency. The values and the latency are constants WITHOUT A BODY, applied to the
number of the draw (`State.unspec`), so that no proof can rest on a value of one.
-/

namespace Sys2Proof

/-- The named parameters of the block, fixed when it is built: `WH_ROT1` and `WH_ROT2`, the two rotate amounts of unit
3 (spec/00_scope.md R5, spec/43_wh32.md R65, spec/93_implementation_defined.md U10; log 11). -/
structure Params where
  whRot1 : Nat
  whRot2 : Nat
  deriving DecidableEq, Repr

end Sys2Proof

namespace Sys2Proof.Config

/-- What `Y[0]` holds from draw `k` on (spec/10_state.md R14, R24: it holds no value). Free value, log 3. -/
opaque freeY0 : Nat → Word64

/-- What `Y[1]` holds from draw `k` on (spec/10_state.md R14, R24: it holds no value). Free value, log 3. -/
opaque freeY1 : Nat → Word64

/-- What `STATUS.ERR` reads between an acceptance and its completion (spec/10_state.md R24) and before
the first reset (spec/70_reset_and_hazards.md R152). Free value, log 3. -/
opaque freeErr : Nat → Bool

/-- What `STATUS.CODE` reads between an acceptance and its completion (spec/10_state.md R24) and before
the first reset (spec/70_reset_and_hazards.md R152). Free value, log 3. -/
opaque freeCode : Nat → BitVec 2

/-- What `STATUS.VALID` reads before the first reset (spec/70_reset_and_hazards.md R152). Free value, log 3. -/
opaque freeValid : Nat → Bool

/-- What `BUSY` reads before the first reset (spec/70_reset_and_hazards.md R152). Free value, log 3. -/
opaque freeBusy : Nat → Bool

/-- What the command word of `captured` holds after a reset edge (spec/70_reset_and_hazards.md R148). Free value, log 3. -/
opaque freeCmd : Nat → Word32

/-- What operand field `i` of `captured` holds after a reset edge (spec/70_reset_and_hazards.md R148): the draw, then
the field's number. Free value, log 3. -/
opaque freeField : Nat → Nat → Word64

/-- `LATENCY` less one: how many clock edges pass between the acceptance of a request with this command word and the
edge just before its completing one (spec/00_scope.md R5, spec/70_reset_and_hazards.md R154: OPEN, any finite number
at least 1). It may differ from one acceptance to the next, hence the number of the draw. Free value, log 5. -/
opaque extraEdges : Word32 → Nat → Nat

end Sys2Proof.Config
end

