-- ==== Sys2Proof/Machine/Constants.lean ====
section
/-!
DEFINITION. The constant table of the block (spec/10_state.md R16), the multiplier select table of unit 1 (R17) and the
defaults of the two named parameters of unit 3 (spec/00_scope.md R5). No state, no request and no reset changes one.
-/

namespace Sys2Proof.Machine

/-! ## The constant table (spec/10_state.md R16) -/

def c1 : Word32 := 0xcc9e2d51
def c2 : Word32 := 0x1b873593
def n32 : Word32 := 0xe6546b64

def k0 : Word64 := 0xc3a5c85c97cb3127
def k1 : Word64 := 0xb492b66fbe98f273
def k2 : Word64 := 0x9ae16a3b2f90404f
def k3 : Word64 := 0xc949d7c7509e6557
def kmul : Word64 := 0x9ddfea08eb382d69

def x86C1 : Word32 := 0x239b961b
def x86C2 : Word32 := 0xab0e9789
def x86C3 : Word32 := 0x38b34ae5
def x86C4 : Word32 := 0xa1e38b93
def x86N1 : Word32 := 0x561ccd1b
def x86N2 : Word32 := 0x0bcaa747
def x86N3 : Word32 := 0x96cd1c35
def x86N4 : Word32 := 0x32ac3b17

def x64C1 : Word64 := 0x87c37b91114253d5
def x64C2 : Word64 := 0x4cf5ad432745937f
def x64N1 : Word64 := 0x0000000052dce729
def x64N2 : Word64 := 0x0000000038495ab5

def f32M1 : Word32 := 0x85ebca6b
def f32M2 : Word32 := 0xc2b2ae35
def f64M1 : Word64 := 0xff51afd7ed558ccd
def f64M2 : Word64 := 0xc4ceb9fe1a85ec53

/-- `KTAB`, the multiplier select table of unit 1, by MODE (spec/10_state.md R17). -/
def ktab : Fin 6 → Word64
  | 0 => 1
  | 1 => k0
  | 2 => k1
  | 3 => k2
  | 4 => k3
  | 5 => kmul

/-! ## The named parameters of unit 3 -/

/-- The defaults of the named parameters, `WH_ROT1 = 21` and `WH_ROT2 = 44` (spec/00_scope.md R5, spec/43_wh32.md R65;
UNVERIFIED, log 11: no vector of the source confirms them). -/
def defaultParams : Params := ⟨21, 44⟩

end Sys2Proof.Machine
end

