-- ==== Sys2Proof/Syntax.lean ====
section
/-!
DEFINITION. The operations of the block (spec/30_encoding.md R39: 25 of them, one constructor each), the request that
selects one and carries its operands (spec/10_state.md R11), and the causes of an illegal command
(spec/60_exceptions.md R131).
-/

namespace Sys2Proof

/-- The 25 operations. The only immediate is `rem`, the REM field `CMD[11:8]` (spec/30_encoding.md R38), which only
the three tail modes of unit 4 have. -/
inductive Instr where
  /-- HMIX32, unit 0 (spec/40_hmix32.md R55). -/
  | hmix32
  /-- HMIX64.S, unit 1 mode 0 (spec/41_hmix64.md R58). -/
  | hmix64S
  /-- HMIX64.K0, unit 1 mode 1 (spec/41_hmix64.md R58). -/
  | hmix64K0
  /-- HMIX64.K1, unit 1 mode 2 (spec/41_hmix64.md R58). -/
  | hmix64K1
  /-- HMIX64.K2, unit 1 mode 3 (spec/41_hmix64.md R58). -/
  | hmix64K2
  /-- HMIX64.K3, unit 1 mode 4 (spec/41_hmix64.md R58). -/
  | hmix64K3
  /-- HMIX64.KMUL, unit 1 mode 5 (spec/41_hmix64.md R58). -/
  | hmix64Kmul
  /-- HL16, unit 2 (spec/42_hl16.md R62). -/
  | hl16
  /-- WH32, unit 3 (spec/43_wh32.md R65). -/
  | wh32
  /-- M3.X32.B, unit 4 mode 0 (spec/44_m3mix.md R70). -/
  | m3X32B
  /-- M3.X32.T, unit 4 mode 1 (spec/44_m3mix.md R71). -/
  | m3X32T (rem : BitVec 4)
  /-- M3.X86.B, unit 4 mode 2 (spec/44_m3mix.md R74). -/
  | m3X86B
  /-- M3.X86.T, unit 4 mode 3 (spec/44_m3mix.md R75). -/
  | m3X86T (rem : BitVec 4)
  /-- M3.X64.B, unit 4 mode 4 (spec/44_m3mix.md R78). -/
  | m3X64B
  /-- M3.X64.T, unit 4 mode 5 (spec/44_m3mix.md R79). -/
  | m3X64T (rem : BitVec 4)
  /-- FMIX32, unit 5 (spec/45_fmix.md R81). -/
  | fmix32
  /-- FMIX64, unit 6 (spec/45_fmix.md R82). -/
  | fmix64
  /-- LDMUX.C32, unit 7 mode 0 (spec/46_ldmux.md R86). -/
  | ldmuxC32
  /-- LDMUX.C64, unit 7 mode 1 (spec/46_ldmux.md R87). -/
  | ldmuxC64
  /-- LDMUX.C128S, unit 7 mode 2 (spec/46_ldmux.md R88). -/
  | ldmuxC128S
  /-- LDMUX.CMUR, unit 7 mode 3 (spec/46_ldmux.md R89). -/
  | ldmuxCMur
  /-- LDMUX.C128U, unit 7 mode 4 (spec/46_ldmux.md R90). -/
  | ldmuxC128U
  /-- LDMUX.M32, unit 7 mode 5 (spec/46_ldmux.md R91). -/
  | ldmuxM32
  /-- LDMUX.M86, unit 7 mode 6 (spec/46_ldmux.md R92). -/
  | ldmuxM86
  /-- LDMUX.M64, unit 7 mode 7 (spec/46_ldmux.md R93). -/
  | ldmuxM64
  deriving DecidableEq, Repr

/-- The source's own names for the primitives (spec/30_encoding.md R46). -/
inductive Alias where
  | shiftMix
  | mur
  | hashLen16
  | weakHash32
  | fmix32
  | fmix64
  deriving DecidableEq, Repr

/-- A request: the command word and the six operand fields (spec/10_state.md R11). -/
structure Request where
  cmd : Word32
  x0 : Word64
  x1 : Word64
  x2 : Word64
  x3 : Word64
  x4 : Word64
  x5 : Word64
  deriving DecidableEq, Repr

/-- Why a command word is illegal (spec/60_exceptions.md R131). -/
inductive IllegalCause where
  /-- `CMD[3:0]` names no unit. -/
  | illegalUnit
  /-- `CMD[7:4]` names no mode of the unit. -/
  | illegalMode
  /-- A reserved bit is set, or REM is not one the operation allows. -/
  | illegalField
  deriving DecidableEq, Repr

end Sys2Proof
end

