-- ==== Sys2Proof/WellFormed.lean ====
section
/-!
DEFINITION. Which terms of `Instr` are operations of the block: REM is limited to 0..3 in M3.X32.T and to 0..15 in
M3.X86.T and M3.X64.T (spec/30_encoding.md R38, R43).
-/

namespace Sys2Proof

/-- The legal values of REM (spec/30_encoding.md R38). The only term the four bits of REM allow and the block does
not is M3.X32.T with four or more tail bytes. -/
def Instr.wellFormed : Instr → Bool
  | .m3X32T rem => decide (rem.toNat < 4)
  | .m3X86T _ | .m3X64T _ => true
  | .hmix32 | .hmix64S | .hmix64K0 | .hmix64K1 | .hmix64K2 | .hmix64K3 | .hmix64Kmul | .hl16 | .wh32 => true
  | .m3X32B | .m3X86B | .m3X64B | .fmix32 | .fmix64 => true
  | .ldmuxC32 | .ldmuxC64 | .ldmuxC128S | .ldmuxCMur | .ldmuxC128U | .ldmuxM32 | .ldmuxM86 | .ldmuxM64 => true

end Sys2Proof
end

