-- ==== Sys2Proof/Decode.lean ====
section
/-!
DEFINITION. The command word (spec/30_encoding.md R35), its decoder (R43, R44), the encoder (R39), the
machine-readable opcode table (R47) and the source's aliases (R46). There is one length and one format (R40).
-/

namespace Sys2Proof

/-! ## The fields of a command word (spec/30_encoding.md R35) -/

/-- `UNIT = CMD[3:0]`. -/
def unitField (c : Word32) : BitVec 4 := c.extractLsb' 0 4

/-- `MODE = CMD[7:4]`. -/
def modeField (c : Word32) : BitVec 4 := c.extractLsb' 4 4

/-- `REM = CMD[11:8]`. -/
def remField (c : Word32) : BitVec 4 := c.extractLsb' 8 4

/-- `RSV = CMD[31:12]`. -/
def rsvField (c : Word32) : BitVec 20 := c.extractLsb' 12 20

/-- A command word from its four fields, RSV the most significant (spec/30_encoding.md R35). -/
def commandWord (rsv : BitVec 20) (rem mode unit : BitVec 4) : Word32 := rsv ++ rem ++ mode ++ unit

/-! ## The decoder -/

/-- `NMODES`, the number of modes of each unit (spec/30_encoding.md R39). -/
def nmodes (unit : Nat) : Nat := [1, 6, 1, 1, 6, 1, 1, 8].getD unit 0

/-- The opcode map (spec/30_encoding.md R39). -/
def operationOf (unit mode : Nat) (rem : BitVec 4) : Option Instr :=
  match unit, mode with
  | 0, 0 => some .hmix32
  | 1, 0 => some .hmix64S
  | 1, 1 => some .hmix64K0
  | 1, 2 => some .hmix64K1
  | 1, 3 => some .hmix64K2
  | 1, 4 => some .hmix64K3
  | 1, 5 => some .hmix64Kmul
  | 2, 0 => some .hl16
  | 3, 0 => some .wh32
  | 4, 0 => some .m3X32B
  | 4, 1 => some (.m3X32T rem)
  | 4, 2 => some .m3X86B
  | 4, 3 => some (.m3X86T rem)
  | 4, 4 => some .m3X64B
  | 4, 5 => some (.m3X64T rem)
  | 5, 0 => some .fmix32
  | 6, 0 => some .fmix64
  | 7, 0 => some .ldmuxC32
  | 7, 1 => some .ldmuxC64
  | 7, 2 => some .ldmuxC128S
  | 7, 3 => some .ldmuxCMur
  | 7, 4 => some .ldmuxC128U
  | 7, 5 => some .ldmuxM32
  | 7, 6 => some .ldmuxM86
  | 7, 7 => some .ldmuxM64
  | _, _ => none

/-- The tail modes of unit 4, the only operations that have a REM (spec/30_encoding.md R38, R44). -/
def isTailMode (unit mode : Nat) : Bool := unit == 4 && (mode == 1 || mode == 3 || mode == 5)

/-- The operation a command word selects, or the first cause, in the order of R43, why it selects none
(spec/30_encoding.md R43, R44; spec/60_exceptions.md R134). -/
def decode (c : Word32) : Except IllegalCause Instr :=
  let unit := (unitField c).toNat
  let mode := (modeField c).toNat
  let rem := remField c
  if 8 ≤ unit then .error .illegalUnit
  else if nmodes unit ≤ mode then .error .illegalMode
  else if rsvField c ≠ 0 then .error .illegalField
  else if isTailMode unit mode = false ∧ rem ≠ 0 then .error .illegalField
  else if unit = 4 ∧ mode = 1 ∧ 4 ≤ rem.toNat then .error .illegalField
  else
    match operationOf unit mode rem with
    | some i => .ok i
    | none => .error .illegalMode

/-- The instruction the decoder reads from a table row's word: the command word is one 32-bit number, bit 0 its least
significant bit, and no byte order enters (spec/30_encoding.md R35, spec/20_memory.md R27: there is no instruction
fetch). A number that does not fit the 32-bit `cmd` port is no command word. -/
def decodeTableWord (nbits w : Nat) : Option Instr :=
  let v := w % 2 ^ nbits
  if v < 2 ^ 32 then
    match decode (BitVec.ofNat 32 v) with
    | .ok i => some i
    | .error _ => none
  else none

/-! ## The encoder -/

/-- The unit of an operation (spec/30_encoding.md R39, R41). -/
def Instr.unit : Instr → BitVec 4
  | .hmix32 => 0
  | .hmix64S | .hmix64K0 | .hmix64K1 | .hmix64K2 | .hmix64K3 | .hmix64Kmul => 1
  | .hl16 => 2
  | .wh32 => 3
  | .m3X32B | .m3X32T _ | .m3X86B | .m3X86T _ | .m3X64B | .m3X64T _ => 4
  | .fmix32 => 5
  | .fmix64 => 6
  | .ldmuxC32 | .ldmuxC64 | .ldmuxC128S | .ldmuxCMur | .ldmuxC128U | .ldmuxM32 | .ldmuxM86 | .ldmuxM64 => 7

/-- The mode of an operation (spec/30_encoding.md R39). -/
def Instr.mode : Instr → BitVec 4
  | .hmix32 | .hl16 | .wh32 | .fmix32 | .fmix64 => 0
  | .hmix64S | .m3X32B | .ldmuxC32 => 0
  | .hmix64K0 | .m3X32T _ | .ldmuxC64 => 1
  | .hmix64K1 | .m3X86B | .ldmuxC128S => 2
  | .hmix64K2 | .m3X86T _ | .ldmuxCMur => 3
  | .hmix64K3 | .m3X64B | .ldmuxC128U => 4
  | .hmix64Kmul | .m3X64T _ | .ldmuxM32 => 5
  | .ldmuxM86 => 6
  | .ldmuxM64 => 7

/-- The REM field of an operation: its immediate, 0 where it has none (spec/30_encoding.md R38). -/
def Instr.rem : Instr → BitVec 4
  | .m3X32T rem | .m3X86T rem | .m3X64T rem => rem
  | .hmix32 | .hmix64S | .hmix64K0 | .hmix64K1 | .hmix64K2 | .hmix64K3 | .hmix64Kmul | .hl16 | .wh32 => 0
  | .m3X32B | .m3X86B | .m3X64B | .fmix32 | .fmix64 => 0
  | .ldmuxC32 | .ldmuxC64 | .ldmuxC128S | .ldmuxCMur | .ldmuxC128U | .ldmuxM32 | .ldmuxM86 | .ldmuxM64 => 0

/-- The command word of an operation: the `CMD` column of R39, with `REM` in bits 11:8 (spec/30_encoding.md R39). -/
def encode (i : Instr) : Word32 := commandWord 0 i.rem i.mode i.unit

/-! ## The mnemonics, the opcode table and the aliases -/

/-- The mnemonic of an operation (spec/30_encoding.md R39). -/
def Instr.mnemonic : Instr → String
  | .hmix32 => "HMIX32"
  | .hmix64S => "HMIX64.S"
  | .hmix64K0 => "HMIX64.K0"
  | .hmix64K1 => "HMIX64.K1"
  | .hmix64K2 => "HMIX64.K2"
  | .hmix64K3 => "HMIX64.K3"
  | .hmix64Kmul => "HMIX64.KMUL"
  | .hl16 => "HL16"
  | .wh32 => "WH32"
  | .m3X32B => "M3.X32.B"
  | .m3X32T _ => "M3.X32.T"
  | .m3X86B => "M3.X86.B"
  | .m3X86T _ => "M3.X86.T"
  | .m3X64B => "M3.X64.B"
  | .m3X64T _ => "M3.X64.T"
  | .fmix32 => "FMIX32"
  | .fmix64 => "FMIX64"
  | .ldmuxC32 => "LDMUX.C32"
  | .ldmuxC64 => "LDMUX.C64"
  | .ldmuxC128S => "LDMUX.C128S"
  | .ldmuxCMur => "LDMUX.CMUR"
  | .ldmuxC128U => "LDMUX.C128U"
  | .ldmuxM32 => "LDMUX.M32"
  | .ldmuxM86 => "LDMUX.M86"
  | .ldmuxM64 => "LDMUX.M64"

/-- A row of the machine-readable table: a word `c` selects it when `(c & mask) = match` (spec/30_encoding.md R47). -/
structure OpcodeRow where
  mnemonic : String
  matchBits : Word32
  mask : Word32
  deriving DecidableEq, Repr

/-- `c` selects the row (spec/30_encoding.md R47). -/
def OpcodeRow.selects (r : OpcodeRow) (c : Word32) : Bool := c &&& r.mask == r.matchBits

/-- The 25 rows of opcode_table.json (spec/30_encoding.md R47). -/
def opcodeTable : List OpcodeRow :=
  [⟨"HMIX32", 0x00000000, 0xffffffff⟩,
   ⟨"HMIX64.S", 0x00000001, 0xffffffff⟩, ⟨"HMIX64.K0", 0x00000011, 0xffffffff⟩,
   ⟨"HMIX64.K1", 0x00000021, 0xffffffff⟩, ⟨"HMIX64.K2", 0x00000031, 0xffffffff⟩,
   ⟨"HMIX64.K3", 0x00000041, 0xffffffff⟩, ⟨"HMIX64.KMUL", 0x00000051, 0xffffffff⟩,
   ⟨"HL16", 0x00000002, 0xffffffff⟩, ⟨"WH32", 0x00000003, 0xffffffff⟩,
   ⟨"M3.X32.B", 0x00000004, 0xffffffff⟩, ⟨"M3.X32.T", 0x00000014, 0xfffffcff⟩,
   ⟨"M3.X86.B", 0x00000024, 0xffffffff⟩, ⟨"M3.X86.T", 0x00000034, 0xfffff0ff⟩,
   ⟨"M3.X64.B", 0x00000044, 0xffffffff⟩, ⟨"M3.X64.T", 0x00000054, 0xfffff0ff⟩,
   ⟨"FMIX32", 0x00000005, 0xffffffff⟩, ⟨"FMIX64", 0x00000006, 0xffffffff⟩,
   ⟨"LDMUX.C32", 0x00000007, 0xffffffff⟩, ⟨"LDMUX.C64", 0x00000017, 0xffffffff⟩,
   ⟨"LDMUX.C128S", 0x00000027, 0xffffffff⟩, ⟨"LDMUX.CMUR", 0x00000037, 0xffffffff⟩,
   ⟨"LDMUX.C128U", 0x00000047, 0xffffffff⟩, ⟨"LDMUX.M32", 0x00000057, 0xffffffff⟩,
   ⟨"LDMUX.M86", 0x00000067, 0xffffffff⟩, ⟨"LDMUX.M64", 0x00000077, 0xffffffff⟩]

/-- What each alias expands to: exactly one operation (spec/30_encoding.md R46). -/
def Alias.expand : Alias → Instr
  | .shiftMix => .hmix64S
  | .mur => .hmix32
  | .hashLen16 => .hl16
  | .weakHash32 => .wh32
  | .fmix32 => .fmix32
  | .fmix64 => .fmix64

end Sys2Proof
end

