-- ==== Sys2Proof/Machine/State.lean ====
section
/-!
DEFINITION. The state of the block (spec/10_state.md R10, R12, R13, R18), the input ports the host drives
(spec/70_reset_and_hazards.md R145), the state after reset (spec/10_state.md R23), and the reasons a run can stop.
-/

namespace Sys2Proof.Machine

/-- `STATUS` (spec/10_state.md R13): 4 bits, `VALID` in bit 0, `ERR` in bit 1, `CODE` in bits 3:2. It has no address
and is never read as one word: each field is wired to a port of its own. -/
structure Status where
  valid : Bool
  err : Bool
  code : BitVec 2
  deriving DecidableEq, Repr

/-- The input ports at the next active clock edge (spec/70_reset_and_hazards.md R145). The host drives them. -/
structure Ports where
  rst : Bool
  reqValid : Bool
  req : Request
  deriving DecidableEq, Repr

/-- A response: the two result registers and the error report (spec/10_state.md R14, spec/30_encoding.md R44). -/
structure Response where
  y0 : Word64
  y1 : Word64
  err : Bool
  code : BitVec 2
  deriving DecidableEq, Repr

/-- The state. The first five fields are the block's own (spec/10_state.md R10), `params` is what it was built with
(log 11), `ports` is what the host drives, and the last three are the model's: `sawReset` (log 8), `waitLeft` (log 5)
and `unspec` (log 4). -/
structure State where
  /-- `Y[0]` (spec/10_state.md R12). -/
  y0 : Word64
  /-- `Y[1]` (spec/10_state.md R12). -/
  y1 : Word64
  /-- `STATUS` (spec/10_state.md R13). -/
  status : Status
  /-- `BUSY` (spec/10_state.md R18). -/
  busy : Bool
  /-- The copy of the request fields taken at acceptance (spec/10_state.md R18). -/
  captured : Request
  /-- The named parameters of the block, which nothing changes (spec/00_scope.md R5). They stand here so that a step is
  a function of State alone. -/
  params : Params
  /-- The input ports (spec/70_reset_and_hazards.md R145). -/
  ports : Ports
  /-- `rst` has been 1 on a clock edge since power was applied (spec/70_reset_and_hazards.md R152). -/
  sawReset : Bool
  /-- Clock edges still to pass before the edge that completes the operation in flight (R154). -/
  waitLeft : Nat
  /-- How many times unspecified values have been drawn from `Config`. -/
  unspec : Nat
  deriving DecidableEq, Repr

/-- Why a run of the host on the block stops with a fault. The block itself has no fault: an illegal command is
answered by the error response (spec/60_exceptions.md R131 to R133). -/
inductive Fault where
  /-- Raised by the host's fetches (`fetchByte`, `fetch32`, `fetch64`): an offset out of range (spec/20_memory.md R28,
  spec/60_exceptions.md R138). Safe: the spec calls it a specification violation. -/
  | fetchOutOfRange
  /-- Raised by the host's sequences of transactions when a response has ERR = 1, which R45 has them check
  (spec/30_encoding.md R45, spec/70_reset_and_hazards.md R150 H4). Safe: the host goes no further with it. -/
  | errorResponseSeen (code : BitVec 2)
  deriving DecidableEq, Repr

/-- Why the model refuses to go on. -/
inductive Refusal where
  /-- An instruction with no meaning yet; `exec` alone would raise it. Safe. -/
  | notModelled (mnemonic : String)
  /-- Raised before the first reset by a clock edge with `rst = 0`, by a transaction and by a read of the output ports
  (spec/70_reset_and_hazards.md R152: no rule applies; spec/93_implementation_defined.md U5: refuse). Safe. -/
  | beforeFirstReset
  /-- Raised by `State.readResponse` while `VALID = 0` (spec/10_state.md R24: the read is refused). Safe. -/
  | responseNotValid
  /-- Raised by `CityRev.noneChosen`, where a host sequence reaches steps the spec does not supply while no revision of
  the City family is chosen (spec/47_composition.md R114, R117, R118, R119, R122, R123). Safe. -/
  | citySequenceNotGiven
  /-- Raised by `CitySeedUse32.noneChosen`, where the City 32-bit host sequence is given a nonzero seed while
  `CITY32_SEED_USE` is open (spec/47_composition.md R110). Safe. -/
  | citySeedUseOpen
  deriving DecidableEq, Repr

/-- A request of zeros: the value the model names for `captured` and for the driven request (log 2, log 6). -/
def zeroRequest : Request := ⟨0, 0, 0, 0, 0, 0, 0⟩

/-- The block right after reset (spec/10_state.md R23), built with the default parameters: EMPTY, `STATUS` and `BUSY` 0.
The zeros of `Y` (log 1), of
`captured` (log 2) and of the ports (log 6) are the model's. -/
def State.reset : State :=
  { y0 := 0
    y1 := 0
    status := ⟨false, false, 0⟩
    busy := false
    captured := zeroRequest
    params := defaultParams
    ports := ⟨false, false, zeroRequest⟩
    sawReset := true
    waitLeft := 0
    unspec := 0 }

end Sys2Proof.Machine
end

