-- ==== Sys2Proof/Machine/Flags.lean ====
section
/-!
DEFINITION. What is written to `STATUS` (spec/10_state.md R13): the only flags the block has. No result depends on one.
-/

namespace Sys2Proof.Machine

/-- The `CODE` of a cause (spec/60_exceptions.md R131). -/
def causeCode : IllegalCause → BitVec 2
  | .illegalUnit => 1
  | .illegalMode => 2
  | .illegalField => 3

/-- What the completion of a legal operation writes (spec/10_state.md R13). -/
def statusOk : Status := ⟨true, false, 0⟩

/-- What the completion of an illegal command writes (spec/10_state.md R13). -/
def statusIllegal (c : IllegalCause) : Status := ⟨true, true, causeCode c⟩

/-- What reset writes (spec/10_state.md R14). -/
def statusReset : Status := ⟨false, false, 0⟩

/-- `STATUS` as its four bits: `CODE` in 3:2, `ERR` in 1, `VALID` in 0 (spec/10_state.md R13). -/
def statusWord (s : Status) : BitVec 4 := s.code ++ BitVec.ofBool s.err ++ BitVec.ofBool s.valid

end Sys2Proof.Machine
end

