-- ==== Sys2Proof/Machine/Operands.lean ====
section
/-!
DEFINITION. The forms an operand and a result can have: a `u32` in the low half of a field, two 32-bit lanes packed in
one field, the tail bytes of unit 4 with their mask, and a word made of input bytes (spec/30_encoding.md R36, R37;
spec/44_m3mix.md R69; spec/00_scope.md R8; spec/20_memory.md R27).
-/

namespace Sys2Proof.Machine

/-- A `u32` operand: bits 31:0 of its field, whatever bits 63:32 hold (spec/10_state.md R11). -/
def lo32 (v : Word64) : Word32 := v.extractLsb' 0 32

/-- The upper lane of a packed field, bits 63:32 (spec/44_m3mix.md R69). -/
def hi32 (v : Word64) : Word32 := v.extractLsb' 32 32

/-- Two 32-bit lanes in one register, `{hi, lo}` (spec/44_m3mix.md R69). -/
def pack (hi lo : Word32) : Word64 := hi ++ lo

/-- A `u32` result, zero-extended (spec/10_state.md R12). -/
def zext64 (v : Word32) : Word64 := v.setWidth 64

/-- `MASKB`: the low `r` bytes of `v`, the others zero (spec/00_scope.md R8). -/
def maskBytes {w : Nat} (v : BitVec w) (r : Nat) : BitVec w := v &&& BitVec.ofNat w (2 ^ (8 * r) - 1)

/-- The 128-bit tail `MASKB({X[3], X[2]}, rem)` of the two 128-bit variants (spec/44_m3mix.md R75, R79). -/
def tail128 (r : Request) (rem : BitVec 4) : BitVec 128 := maskBytes (r.x3 ++ r.x2 : BitVec 128) rem.toNat

/-- Four bytes as a `u32`, the first the least significant (spec/00_scope.md R8 `LE32`, spec/20_memory.md R27). -/
def le32 (b0 b1 b2 b3 : Byte) : Word32 := b3 ++ b2 ++ b1 ++ b0

/-- Eight bytes as a `u64`, the first the least significant (spec/00_scope.md R8 `LE64`, spec/20_memory.md R27). -/
def le64 (b0 b1 b2 b3 b4 b5 b6 b7 : Byte) : Word64 := b7 ++ b6 ++ b5 ++ b4 ++ b3 ++ b2 ++ b1 ++ b0

/-- The request of an operation with its operands in field order, trailing ignored fields omitted
(spec/30_encoding.md R45). A field the operation ignores is presented as 0: any value gives the same response. -/
def opRequest (i : Instr) (x0 : Word64) (x1 x2 x3 x4 x5 : Word64 := 0) : Request :=
  ⟨encode i, x0, x1, x2, x3, x4, x5⟩

end Sys2Proof.Machine
end

