-- ==== Sys2Proof/Machine/Ops.lean ====
section
/-!
DEFINITION. The operations every event and every meaning is made of: the three events of spec/10_state.md R14 (accept,
complete, reset), the error response, the ports. The block has no memory, so there is no operation over one
(spec/20_memory.md R25).
-/

namespace Sys2Proof.Machine

/-! ## Completion -/

/-- The completion of a legal operation: both result registers, all three status fields, `BUSY` cleared
(spec/10_state.md R12, R13, R14). -/
def State.respond (s : State) (y0 y1 : Word64) : State :=
  { s with y0 := y0, y1 := y1, status := statusOk, busy := false, waitLeft := 0 }

/-- THE EXCEPTION: an illegal command is completed with the error response (spec/60_exceptions.md R133, R136). Nothing
is saved and control goes nowhere, so there is no return from it (R137). -/
def State.takeIllegal (s : State) (c : IllegalCause) : State :=
  { s with y0 := 0, y1 := 0, status := statusIllegal c, busy := false, waitLeft := 0 }

/-! ## Acceptance and waiting -/

/-- Acceptance of a request (spec/10_state.md R14, spec/70_reset_and_hazards.md R147). `Y`, `ERR` and `CODE` hold no
value until the completion (R24): free values. The latency is drawn here. -/
def State.accept (s : State) (r : Request) : State :=
  { s with
    busy := true
    captured := r
    status := ⟨false, Config.freeErr s.unspec, Config.freeCode s.unspec⟩
    y0 := Config.freeY0 s.unspec
    y1 := Config.freeY1 s.unspec
    waitLeft := Config.extraEdges r.cmd s.unspec
    unspec := s.unspec + 1 }

/-- A clock edge of the operation in flight that is not its completing one (spec/70_reset_and_hazards.md R154). -/
def State.waitEdge (s : State) : State := { s with waitLeft := s.waitLeft - 1 }

/-! ## Reset and power -/

/-- The request `captured` holds after a reset edge: no value of the spec's, free values (spec/70_reset_and_hazards.md
R148). -/
def freeRequest (k : Nat) : Request :=
  ⟨Config.freeCmd k, Config.freeField k 0, Config.freeField k 1, Config.freeField k 2, Config.freeField k 3,
    Config.freeField k 4, Config.freeField k 5⟩

/-- A clock edge with `rst = 1` (spec/10_state.md R14, spec/70_reset_and_hazards.md R148, R149): EMPTY, and `Y` and
`captured` hold no value from then on. -/
def State.resetEdge (s : State) : State :=
  { s with
    y0 := Config.freeY0 s.unspec
    y1 := Config.freeY1 s.unspec
    status := statusReset
    busy := false
    captured := freeRequest s.unspec
    sawReset := true
    waitLeft := 0
    unspec := s.unspec + 1 }

/-- The platform removes power and applies it again: until the next reset no register of the block holds a value the
spec gives (spec/60_exceptions.md R144, spec/70_reset_and_hazards.md R152), so all of them hold free values (log 3). What
the block was built with and what the host drives stay. -/
def State.powerCycle (s : State) : State :=
  { s with
    y0 := Config.freeY0 s.unspec
    y1 := Config.freeY1 s.unspec
    status := ⟨Config.freeValid s.unspec, Config.freeErr s.unspec, Config.freeCode s.unspec⟩
    busy := Config.freeBusy s.unspec
    captured := freeRequest s.unspec
    sawReset := false
    waitLeft := 0
    unspec := s.unspec + 1 }

/-! ## The ports (spec/70_reset_and_hazards.md R145) -/

/-- The host drives the input ports. -/
def State.drive (s : State) (p : Ports) : State := { s with ports := p }

/-- `req_ready` as it stands on the port (spec/70_reset_and_hazards.md R146). -/
def State.reqReady (s : State) : Bool := !s.busy

/-- The host reads `req_ready`: refused before the first reset (spec/70_reset_and_hazards.md R152,
spec/93_implementation_defined.md U5). -/
def State.readReady (s : State) : Host.Outcome Bool Fault Refusal :=
  if s.sawReset = false then .refused .beforeFirstReset else .next s.reqReady

/-- The response as it stands on the output ports. -/
def State.response (s : State) : Response := ⟨s.y0, s.y1, s.status.err, s.status.code⟩

/-- The host reads the response: refused before the first reset (spec/70_reset_and_hazards.md R152,
spec/93_implementation_defined.md U5) and while `resp_valid = 0`, when none of the four fields holds a value
(spec/10_state.md R24, spec/60_exceptions.md R138). -/
def State.readResponse (s : State) : Host.Outcome Response Fault Refusal :=
  if s.sawReset = false then .refused .beforeFirstReset
  else if s.status.valid then .next s.response else .refused .responseNotValid

end Sys2Proof.Machine
end

