-- ==== Sys2Proof/Machine/Fmix.lean ====
section
/-!
DEFINITION. Units 5 and 6, fmix_avalanche_32 and fmix_avalanche_64: FMIX32, FMIX64 (spec/45_fmix.md R81, R82).
-/

namespace Sys2Proof.Machine

/-- The 32-bit avalanche (spec/45_fmix.md R81). -/
def fmix32 (h : Word32) : Word32 :=
  let h1 := h ^^^ (h >>> 16)
  let h2 := h1 * f32M1
  let h3 := h2 ^^^ (h2 >>> 13)
  let h4 := h3 * f32M2
  h4 ^^^ (h4 >>> 16)

/-- FMIX32 (spec/45_fmix.md R81). -/
def execFmix32 (s : State) : Host.Outcome State Fault Refusal :=
  .next (s.respond (zext64 (fmix32 (lo32 s.captured.x0))) 0)

/-- The 64-bit avalanche (spec/45_fmix.md R82). -/
def fmix64 (k : Word64) : Word64 :=
  let k1 := k ^^^ (k >>> 33)
  let k2 := k1 * f64M1
  let k3 := k2 ^^^ (k2 >>> 33)
  let k4 := k3 * f64M2
  k4 ^^^ (k4 >>> 33)

/-- FMIX64 (spec/45_fmix.md R82). -/
def execFmix64 (s : State) : Host.Outcome State Fault Refusal :=
  .next (s.respond (fmix64 s.captured.x0) 0)

end Sys2Proof.Machine
end

