-- ==== Sys2Proof/Machine/Hmix64.lean ====
section
/-!
DEFINITION. Unit 1, hash_mixer_64: HMIX64.S, .K0, .K1, .K2, .K3, .KMUL (spec/41_hmix64.md R58).
-/

namespace Sys2Proof.Machine

/-- The shift-xor of HMIX64 and of the rounds of HL16 (spec/41_hmix64.md R58, R59). -/
def shiftMix (v : Word64) : Word64 := v ^^^ (v >>> 47)

/-- Shift-xor, then multiply by an entry of `KTAB` (spec/41_hmix64.md R58). -/
def hmix64 (m : Fin 6) (v : Word64) : Word64 := shiftMix v * ktab m

/-- The response every HMIX64 operation writes (spec/41_hmix64.md R58). -/
def hmix64Respond (m : Fin 6) (s : State) : Host.Outcome State Fault Refusal :=
  .next (s.respond (hmix64 m s.captured.x0) 0)

/-- HMIX64.S (spec/41_hmix64.md R58, R59). -/
def execHmix64S (s : State) : Host.Outcome State Fault Refusal := hmix64Respond 0 s

/-- HMIX64.K0 (spec/41_hmix64.md R58). -/
def execHmix64K0 (s : State) : Host.Outcome State Fault Refusal := hmix64Respond 1 s

/-- HMIX64.K1 (spec/41_hmix64.md R58). -/
def execHmix64K1 (s : State) : Host.Outcome State Fault Refusal := hmix64Respond 2 s

/-- HMIX64.K2 (spec/41_hmix64.md R58). -/
def execHmix64K2 (s : State) : Host.Outcome State Fault Refusal := hmix64Respond 3 s

/-- HMIX64.K3 (spec/41_hmix64.md R58). -/
def execHmix64K3 (s : State) : Host.Outcome State Fault Refusal := hmix64Respond 4 s

/-- HMIX64.KMUL (spec/41_hmix64.md R58). -/
def execHmix64Kmul (s : State) : Host.Outcome State Fault Refusal := hmix64Respond 5 s

end Sys2Proof.Machine
end

