-- ==== Sys2Proof/Machine/Hl16.lean ====
section
/-!
DEFINITION. Unit 2, block_compressor_16byte: HL16 (spec/42_hl16.md R62).
-/

namespace Sys2Proof.Machine

/-- Compress two 64-bit words into one: two rounds and a closing multiply (spec/42_hl16.md R62). -/
def hl16 (u v : Word64) : Word64 :=
  let a := (u ^^^ v) * kmul
  let a' := shiftMix a
  let b := (v ^^^ a') * kmul
  let b' := shiftMix b
  b' * kmul

/-- HL16 (spec/42_hl16.md R62). -/
def execHl16 (s : State) : Host.Outcome State Fault Refusal :=
  .next (s.respond (hl16 s.captured.x0 s.captured.x1) 0)

end Sys2Proof.Machine
end

