-- ==== Sys2Proof/Machine/Hmix32.lean ====
section
/-!
DEFINITION. Unit 0, hash_mixer_32: HMIX32 (spec/40_hmix32.md R55).
-/

namespace Sys2Proof.Machine

/-- Combine the word `a` into the accumulator `h` (spec/40_hmix32.md R55). -/
def hmix32 (a h : Word32) : Word32 :=
  let a1 := a * c1
  let a2 := a1.rotateRight 17
  let a3 := a2 * c2
  let h1 := h ^^^ a3
  let h2 := h1.rotateRight 19
  h2 * 5 + n32

/-- HMIX32 (spec/40_hmix32.md R55). -/
def execHmix32 (s : State) : Host.Outcome State Fault Refusal :=
  .next (s.respond (zext64 (hmix32 (lo32 s.captured.x0) (lo32 s.captured.x1))) 0)

end Sys2Proof.Machine
end

