-- ==== Sys2Proof/Machine/Ldmux.lean ====
section
/-!
DEFINITION. Unit 7, length_dispatch_mux: LDMUX.C32, .C64, .C128S, .CMUR, .C128U, .M32, .M86, .M64 (spec/46_ldmux.md).
The operand is the length `n = X[0]`, unsigned, all 64 bits compared (R85, R86).
-/

namespace Sys2Proof.Machine

/-! ## The bands (spec/46_ldmux.md R86 to R90) -/

def bandC32 (n : Word64) : Word64 := if n ≤ 4 then 0 else if n ≤ 12 then 1 else if n ≤ 24 then 2 else 3

def bandC64 (n : Word64) : Word64 := if n ≤ 16 then 0 else if n ≤ 32 then 1 else if n ≤ 64 then 2 else 3

def bandC128S (n : Word64) : Word64 := if n < 128 then 0 else 1

def bandCMur (n : Word64) : Word64 := if n ≤ 16 then 0 else 1

def bandC128U (n : Word64) : Word64 := if n < 8 then 0 else if n < 16 then 1 else 2

/-- A band operation: the band in `Y[0]`, 0 in `Y[1]` (spec/46_ldmux.md R85). -/
def bandRespond (band : Word64) (s : State) : Host.Outcome State Fault Refusal := .next (s.respond band 0)

/-- LDMUX.C32 (spec/46_ldmux.md R86). -/
def execLdmuxC32 (s : State) : Host.Outcome State Fault Refusal := bandRespond (bandC32 s.captured.x0) s

/-- LDMUX.C64 (spec/46_ldmux.md R87). -/
def execLdmuxC64 (s : State) : Host.Outcome State Fault Refusal := bandRespond (bandC64 s.captured.x0) s

/-- LDMUX.C128S (spec/46_ldmux.md R88). -/
def execLdmuxC128S (s : State) : Host.Outcome State Fault Refusal := bandRespond (bandC128S s.captured.x0) s

/-- LDMUX.CMUR (spec/46_ldmux.md R89). -/
def execLdmuxCMur (s : State) : Host.Outcome State Fault Refusal := bandRespond (bandCMur s.captured.x0) s

/-- LDMUX.C128U (spec/46_ldmux.md R90). -/
def execLdmuxC128U (s : State) : Host.Outcome State Fault Refusal := bandRespond (bandC128U s.captured.x0) s

/-! ## Block count and tail length (spec/46_ldmux.md R91 to R93) -/

/-- The low `bits` bits of the length are the remainder, given in bits 3:0 and again in bits 11:8; the rest of the
length is the number of full blocks (spec/46_ldmux.md R85, R91, R92). -/
def blocksRespond (bits : Nat) (s : State) : Host.Outcome State Fault Refusal :=
  let n := s.captured.x0
  let rem : Word64 := (n.extractLsb' 0 bits).setWidth 64
  .next (s.respond (rem ||| rem <<< 8) (n >>> bits))

/-- LDMUX.M32 (spec/46_ldmux.md R91). -/
def execLdmuxM32 (s : State) : Host.Outcome State Fault Refusal := blocksRespond 2 s

/-- LDMUX.M86 (spec/46_ldmux.md R92). -/
def execLdmuxM86 (s : State) : Host.Outcome State Fault Refusal := blocksRespond 4 s

/-- LDMUX.M64 (spec/46_ldmux.md R93). -/
def execLdmuxM64 (s : State) : Host.Outcome State Fault Refusal := blocksRespond 4 s

end Sys2Proof.Machine
end

