-- ==== Sys2Proof/Machine/M3mix.lean ====
section
/-!
DEFINITION. Unit 4, murmur3_block_mixer: M3.X32.B, M3.X32.T, M3.X86.B, M3.X86.T, M3.X64.B, M3.X64.T
(spec/44_m3mix.md). Lanes and bytes are packed as R69 says.
-/

namespace Sys2Proof.Machine

/-! ## The 32-bit variant -/

/-- The multiply-rotate-multiply of a block or tail word (spec/44_m3mix.md R70, R71). -/
def kmX32 (k : Word32) : Word32 := (k * c1).rotateLeft 15 * c2

/-- One 4-byte block into the accumulator (spec/44_m3mix.md R70). -/
def m3X32Body (h k : Word32) : Word32 :=
  let h1 := h ^^^ kmX32 k
  let h2 := h1.rotateLeft 13
  h2 * 5 + n32

/-- M3.X32.B (spec/44_m3mix.md R70). -/
def execM3X32B (s : State) : Host.Outcome State Fault Refusal :=
  .next (s.respond (zext64 (m3X32Body (lo32 s.captured.x0) (lo32 s.captured.x2))) 0)

/-- A tail of `rem` bytes into the accumulator (spec/44_m3mix.md R71). -/
def m3X32Tail (rem : BitVec 4) (h t : Word32) : Word32 := h ^^^ kmX32 (maskBytes t rem.toNat)

/-- M3.X32.T (spec/44_m3mix.md R71). A `rem` of 4 or more is an illegal command (spec/30_encoding.md R43), which the
decoder reports before the operation is reached; the meaning gives such a term the same error response (log 12). -/
def execM3X32T (rem : BitVec 4) (s : State) : Host.Outcome State Fault Refusal :=
  if rem.toNat < 4 then
    .next (s.respond (zext64 (m3X32Tail rem (lo32 s.captured.x0) (lo32 s.captured.x2))) 0)
  else .next (s.takeIllegal .illegalField)

/-! ## The 128-bit, 32-bit-lane variant -/

/-- `KM_1` (spec/44_m3mix.md R72). -/
def km1 (k : Word32) : Word32 := (k * x86C1).rotateLeft 15 * x86C2

/-- `KM_2` (spec/44_m3mix.md R72). -/
def km2 (k : Word32) : Word32 := (k * x86C2).rotateLeft 16 * x86C3

/-- `KM_3` (spec/44_m3mix.md R72). -/
def km3 (k : Word32) : Word32 := (k * x86C3).rotateLeft 17 * x86C4

/-- `KM_4` (spec/44_m3mix.md R72). -/
def km4 (k : Word32) : Word32 := (k * x86C4).rotateLeft 18 * x86C1

/-- One lane of the X86 body: rotate, add the next lane's current value, multiply by 5, add the lane's constant
(spec/44_m3mix.md R72, R74). -/
def laneX86 (h km : Word32) (rot : Nat) (next n : Word32) : Word32 := ((h ^^^ km).rotateLeft rot + next) * 5 + n

/-- M3.X86.B (spec/44_m3mix.md R74). The lanes are updated one after the other (R73): lane 4 adds the new lane 1. -/
def execM3X86B (s : State) : Host.Outcome State Fault Refusal :=
  let r := s.captured
  let h1 := lo32 r.x0
  let h2 := hi32 r.x0
  let h3 := lo32 r.x1
  let h4 := hi32 r.x1
  let h1 := laneX86 h1 (km1 (lo32 r.x2)) 19 h2 x86N1
  let h2 := laneX86 h2 (km2 (hi32 r.x2)) 17 h3 x86N2
  let h3 := laneX86 h3 (km3 (lo32 r.x3)) 15 h4 x86N3
  let h4 := laneX86 h4 (km4 (hi32 r.x3)) 13 h1 x86N4
  .next (s.respond (pack h2 h1) (pack h4 h3))

/-- M3.X86.T (spec/44_m3mix.md R75). -/
def execM3X86T (rem : BitVec 4) (s : State) : Host.Outcome State Fault Refusal :=
  let r := s.captured
  let t := tail128 r rem
  let h1 := lo32 r.x0 ^^^ km1 (t.extractLsb' 0 32)
  let h2 := hi32 r.x0 ^^^ km2 (t.extractLsb' 32 32)
  let h3 := lo32 r.x1 ^^^ km3 (t.extractLsb' 64 32)
  let h4 := hi32 r.x1 ^^^ km4 (t.extractLsb' 96 32)
  .next (s.respond (pack h2 h1) (pack h4 h3))

/-! ## The 128-bit, 64-bit-lane variant -/

/-- `QM_1` (spec/44_m3mix.md R76). -/
def qm1 (k : Word64) : Word64 := (k * x64C1).rotateLeft 31 * x64C2

/-- `QM_2` (spec/44_m3mix.md R76). -/
def qm2 (k : Word64) : Word64 := (k * x64C2).rotateLeft 33 * x64C1

/-- One lane of the X64 body (spec/44_m3mix.md R78). -/
def laneX64 (h qm : Word64) (rot : Nat) (next n : Word64) : Word64 := ((h ^^^ qm).rotateLeft rot + next) * 5 + n

/-- M3.X64.B (spec/44_m3mix.md R78). Lane 1 adds the old lane 2, lane 2 the new lane 1 (R77). -/
def execM3X64B (s : State) : Host.Outcome State Fault Refusal :=
  let r := s.captured
  let h1 := laneX64 r.x0 (qm1 r.x2) 27 r.x1 x64N1
  let h2 := laneX64 r.x1 (qm2 r.x3) 31 h1 x64N2
  .next (s.respond h1 h2)

/-- M3.X64.T (spec/44_m3mix.md R79). -/
def execM3X64T (rem : BitVec 4) (s : State) : Host.Outcome State Fault Refusal :=
  let r := s.captured
  let t := tail128 r rem
  let h1 := r.x0 ^^^ qm1 (t.extractLsb' 0 64)
  let h2 := r.x1 ^^^ qm2 (t.extractLsb' 64 64)
  .next (s.respond h1 h2)

end Sys2Proof.Machine
end

