-- ==== Sys2Proof/Machine/Wh32.lean ====
section
/-!
DEFINITION. Unit 3, weak_hash_32byte: WH32 (spec/43_wh32.md R65). The two rotate amounts are arguments; the operation
runs with the ones its block was built with (`State.params`, log 11).
-/

namespace Sys2Proof.Machine

/-- Fold four data words and two seed words into a pair: the first word of it (spec/43_wh32.md R65). -/
def weakHash0 (w x y z a : Word64) : Word64 :=
  let a1 := a + w
  let a2 := a1 + x
  let a3 := a2 + y
  a3 + z

/-- The second word of the pair, for rotate amounts `rot1` and `rot2` (spec/43_wh32.md R65). -/
def weakHash1 (rot1 rot2 : Nat) (w x y z a b : Word64) : Word64 :=
  let a1 := a + w
  let b1 := (b + a1 + z).rotateRight rot1
  let c := a1
  let a2 := a1 + x
  let a3 := a2 + y
  let b2 := b1 + a3.rotateRight rot2
  b2 + c

/-- WH32 (spec/43_wh32.md R65). -/
def execWh32 (s : State) : Host.Outcome State Fault Refusal :=
  let r := s.captured
  .next (s.respond (weakHash0 r.x0 r.x1 r.x2 r.x3 r.x4)
    (weakHash1 s.params.whRot1 s.params.whRot2 r.x0 r.x1 r.x2 r.x3 r.x4 r.x5))

end Sys2Proof.Machine
end

