-- ==== Sys2Proof/Machine/Dispatch.lean ====
section
/-!
DEFINITION. The dispatch: one arm per operation, each a direct call of its meaning (spec/30_encoding.md R39, R44).
-/

namespace Sys2Proof.Machine

def exec (i : Instr) (s : State) : Host.Outcome State Fault Refusal :=
  match i with
  | .hmix32 => Sys2Proof.Machine.execHmix32 s
  | .hmix64S => Sys2Proof.Machine.execHmix64S s
  | .hmix64K0 => Sys2Proof.Machine.execHmix64K0 s
  | .hmix64K1 => Sys2Proof.Machine.execHmix64K1 s
  | .hmix64K2 => Sys2Proof.Machine.execHmix64K2 s
  | .hmix64K3 => Sys2Proof.Machine.execHmix64K3 s
  | .hmix64Kmul => Sys2Proof.Machine.execHmix64Kmul s
  | .hl16 => Sys2Proof.Machine.execHl16 s
  | .wh32 => Sys2Proof.Machine.execWh32 s
  | .m3X32B => Sys2Proof.Machine.execM3X32B s
  | .m3X32T rem => Sys2Proof.Machine.execM3X32T rem s
  | .m3X86B => Sys2Proof.Machine.execM3X86B s
  | .m3X86T rem => Sys2Proof.Machine.execM3X86T rem s
  | .m3X64B => Sys2Proof.Machine.execM3X64B s
  | .m3X64T rem => Sys2Proof.Machine.execM3X64T rem s
  | .fmix32 => Sys2Proof.Machine.execFmix32 s
  | .fmix64 => Sys2Proof.Machine.execFmix64 s
  | .ldmuxC32 => Sys2Proof.Machine.execLdmuxC32 s
  | .ldmuxC64 => Sys2Proof.Machine.execLdmuxC64 s
  | .ldmuxC128S => Sys2Proof.Machine.execLdmuxC128S s
  | .ldmuxCMur => Sys2Proof.Machine.execLdmuxCMur s
  | .ldmuxC128U => Sys2Proof.Machine.execLdmuxC128U s
  | .ldmuxM32 => Sys2Proof.Machine.execLdmuxM32 s
  | .ldmuxM86 => Sys2Proof.Machine.execLdmuxM86 s
  | .ldmuxM64 => Sys2Proof.Machine.execLdmuxM64 s

end Sys2Proof.Machine
end

