-- ==== Sys2Proof/Machine/Events.lean ====
section
/-!
DEFINITION. One active clock edge of the block (spec/70_reset_and_hazards.md R145 to R149, R154), the completion of the
captured request (spec/10_state.md R14, spec/30_encoding.md R44), and the atomic transaction of R14.
-/

namespace Sys2Proof.Machine

/-- `complete`: the captured request is decoded and executed, or answered by the error response (spec/10_state.md R14,
spec/30_encoding.md R44). -/
def completeCaptured (s : State) : Host.Outcome State Fault Refusal :=
  match decode s.captured.cmd with
  | .ok i => exec i s
  | .error c => .next (s.takeIllegal c)

/-- An edge of the operation in flight: its completing one when no edge is left to wait (spec/70_reset_and_hazards.md
R154). -/
def busyEdge (s : State) : Host.Outcome State Fault Refusal :=
  if s.waitLeft = 0 then completeCaptured s else .next s.waitEdge

/-- One active clock edge. Reset wins over everything (spec/70_reset_and_hazards.md R148); before the first reset no
rule applies (R152); while an operation is in flight no request is looked at (R146); a request is accepted when it is
presented to a block that is ready (R147); otherwise nothing happens (spec/10_state.md R19). -/
def clockEdge (s : State) : Host.Outcome State Fault Refusal :=
  if s.ports.rst then .next s.resetEdge
  else if s.sawReset = false then .refused .beforeFirstReset
  else if s.busy then busyEdge s
  else if s.ports.reqValid then .next (s.accept s.ports.req)
  else .next s

/-- A block with the command word `cmd` captured and at its completing edge: no reset is driven, the block has been
reset, it is busy, and `VALID` is 0 as acceptance leaves it. `Y[0]`, `Y[1]`, `ERR`, `CODE` and the captured operands
stay as they were: DESIGN CHOICE, log 7, for the spec leaves the first four unspecified between an acceptance and its
completion (spec/10_state.md R24). The completing edge overwrites all four and reads none. -/
def State.placeCommand (s : State) (cmd : Word32) : State :=
  { s with
    busy := true
    captured := { s.captured with cmd := cmd }
    status := { s.status with valid := false }
    ports := { s.ports with rst := false }
    sawReset := true
    waitLeft := 0 }

/-! ## EXEC as a function of the request -/

/-- A block whose operation in flight is the request `r`, about to complete. -/
def State.holding (s : State) (r : Request) : State :=
  { s with busy := true, captured := r, waitLeft := 0 }

/-- The state right after reset of a block built with the parameters `p` (spec/00_scope.md R5). -/
def State.resetWith (p : Params) : State := { State.reset with params := p }

/-- `EXEC(CMD, X[0..5])` (spec/30_encoding.md R44): what a block built with the parameters `p` answers to a captured
request. -/
def execResponse (p : Params) (r : Request) : Option Response :=
  match completeCaptured ((State.resetWith p).holding r) with
  | .next t => some t.response
  | .fault _ | .refused _ => none

/-! ## The atomic transaction -/

/-- `accept` followed by its `complete`, as one step `req -> response` (spec/10_state.md R14,
spec/70_reset_and_hazards.md R151). A host that keeps its duty H1 holds the request until the block is ready, so an
operation in flight completes first (log 13). It stands for a host that drives `rst = 0` from acceptance to completion
and does not look at `ports`: DESIGN CHOICE, log 13, for with `rst = 1` no request is accepted and none completes
(spec/70_reset_and_hazards.md R147, R148). -/
def transact (r : Request) (s : State) : Host.Outcome State Fault Refusal :=
  if s.sawReset = false then .refused .beforeFirstReset
  else if s.busy then
    match completeCaptured s with
    | .next t => completeCaptured (t.accept r)
    | .fault f => .fault f
    | .refused q => .refused q
  else completeCaptured (s.accept r)

end Sys2Proof.Machine
end

