-- ==== Sys2Proof/Machine/Step.lean ====
section
/-!
DEFINITION. The step of the machine, one active clock edge, and the placing of a command word where the next step runs
it.
-/

namespace Sys2Proof.Machine

/-- One step: one active clock edge (`clockEdge`). -/
def step (s : State) : Host.Outcome State Fault Refusal := clockEdge s

/-- `s` with the command word `w`, cut to `nbits` bits and to the 32 of the `cmd` port, placed where the very next step
runs it (`State.placeCommand`, log 7). -/
def State.withFetchWord (s : State) (nbits w : Nat) : State := s.placeCommand (BitVec.ofNat 32 (w % 2 ^ nbits))

end Sys2Proof.Machine
end

