-- ==== Sys2Proof/Machine/Transaction.lean ====
section
/-!
DEFINITION. The host's side: its fetches from the input with their bound (spec/20_memory.md R28 to R30), one
transaction line of the script notation (spec/30_encoding.md R45), the sequencing of such lines, and a transaction
played edge by edge on the ports (spec/70_reset_and_hazards.md R145 to R147, R150).
-/

namespace Sys2Proof.Machine

/-! ## The input (spec/20_memory.md R26: immutable, the host's) -/

/-- `B[off]`, permitted only when `off < n` (spec/20_memory.md R28). -/
def fetchByte (B : List Byte) (off : Nat) : Host.Outcome Byte Fault Refusal :=
  match B[off]? with
  | some b => .next b
  | none => .fault .fetchOutOfRange

/-- `Fetch32(B, off)`, permitted only when `off + 4 <= n`; no alignment is needed (spec/20_memory.md R28, R29). -/
def fetch32 (B : List Byte) (off : Nat) : Host.Outcome Word32 Fault Refusal :=
  match B[off]?, B[off + 1]?, B[off + 2]?, B[off + 3]? with
  | some b0, some b1, some b2, some b3 => .next (le32 b0 b1 b2 b3)
  | _, _, _, _ => .fault .fetchOutOfRange

/-- `Fetch64(B, off)`, permitted only when `off + 8 <= n` (spec/20_memory.md R28): the `u32` at `off` is its low half,
the `u32` at `off + 4` its high half (R27). -/
def fetch64 (B : List Byte) (off : Nat) : Host.Outcome Word64 Fault Refusal :=
  match B[off]?, B[off + 1]?, B[off + 2]?, B[off + 3]?, B[off + 4]?, B[off + 5]?, B[off + 6]?, B[off + 7]? with
  | some b0, some b1, some b2, some b3, some b4, some b5, some b6, some b7 => .next (le64 b0 b1 b2 b3 b4 b5 b6 b7)
  | _, _, _, _, _, _, _, _ => .fault .fetchOutOfRange

/-- The `r` bytes from `off` on, packed little-endian, zeros above (spec/47_composition.md R103, R104). -/
def fetchTail (B : List Byte) (off : Nat) : Nat → Host.Outcome (BitVec 128) Fault Refusal
  | 0 => .next 0
  | r + 1 =>
    match fetchTail B off r, fetchByte B (off + r) with
    | .next t, .next b => .next (t ||| b.setWidth 128 <<< (8 * r))
    | .next _, .fault f => .fault f
    | .next _, .refused q => .refused q
    | .fault f, _ => .fault f
    | .refused q, _ => .refused q

/-- The length `n` as it is presented to the block, `NW = 64` bits (spec/00_scope.md R5). -/
def inputLength (B : List Byte) : Word64 := BitVec.ofNat 64 B.length

/-! ## Sequences of transactions -/

/-- A host sequence: it runs on a block and ends with the block and a value of the host's. -/
abbrev HostRun (α : Type) := State → Host.Outcome (State × α) Fault Refusal

/-- The host's own value; the block is not touched. -/
def hostValue {α : Type} (a : α) : HostRun α := fun s => .next (s, a)

/-- A fetch of the host's; the block is not touched. -/
def hostFetch {α : Type} (o : Host.Outcome α Fault Refusal) : HostRun α := fun s =>
  match o with
  | .next a => .next (s, a)
  | .fault f => .fault f
  | .refused q => .refused q

/-- A sequence the spec does not supply. -/
def hostRefuse {α : Type} (q : Refusal) : HostRun α := fun _ => .refused q

/-- One line after another. -/
def andThen {α β : Type} (p : HostRun α) (f : α → HostRun β) : HostRun β := fun s =>
  match p s with
  | .next (t, a) => f a t
  | .fault g => .fault g
  | .refused q => .refused q

/-- One transaction line: present the request, wait for `VALID = 1`, check `ERR = 0`, copy `Y[0]` and `Y[1]`
(spec/30_encoding.md R45). -/
def callOp (r : Request) : HostRun Response := fun s =>
  match transact r s with
  | .next t =>
    match t.readResponse with
    | .next a => if a.err then .fault (.errorResponseSeen a.code) else .next (t, a)
    | .fault f => .fault f
    | .refused q => .refused q
  | .fault f => .fault f
  | .refused q => .refused q

/-- The tail command word: `CMD_base | (Y[0] & 0xf00)` (spec/46_ldmux.md R85). -/
def tailCommand (base : Instr) (y0 : Word64) : Word32 := encode base ||| (lo32 y0 &&& 0xf00)

/-! ## A transaction edge by edge -/

/-- `k` clock edges with the ports as they stand, stopping at a fault or a refusal. -/
def runEdges : Nat → State → Host.Outcome State Fault Refusal
  | 0, s => .next s
  | k + 1, s =>
    match step s with
    | .next t => runEdges k t
    | .fault f => .fault f
    | .refused q => .refused q

/-- The ports of a host that presents `r`. -/
def presenting (r : Request) : Ports := ⟨false, true, r⟩

/-- The ports of a host that has taken its request away; what it leaves on the request fields is `r`. -/
def released (r : Request) : Ports := ⟨false, false, r⟩

/-- A transaction on the ports of a block that is ready: present the request until the edge that accepts it (duty H1),
take it away, and wait for `resp_valid` (spec/70_reset_and_hazards.md R147, R150, R154). -/
def transactEdges (r : Request) (s : State) : Host.Outcome State Fault Refusal :=
  match step (s.drive (presenting r)) with
  | .next t => runEdges (t.waitLeft + 1) (t.drive (released r))
  | .fault f => .fault f
  | .refused q => .refused q

end Sys2Proof.Machine
end

