-- ==== Sys2Proof/Machine/CityRev.lean ====
section
/-!
DEFINITION. The two open parameters of the host model of the City family (spec/00_scope.md R5,
spec/92_eei_decisions.md D27, D28, spec/93_implementation_defined.md U11): `CITY_REV`, which supplies the steps the spec
does not, and `CITY32_SEED_USE`. Both are arguments of the host sequences in Machine/City.lean. What the spec does
say of a path (its state, the spacing of its strides, its operations of the block, the calls it ends with) stands there
and is no part of a parameter (log 15).
-/

namespace Sys2Proof.Machine

/-! ## Host sequences as data -/

/-- What a host does over one input: fetches (spec/20_memory.md R28), transactions on the block and, between them, its
own arithmetic (spec/47_composition.md R101). It can look at nothing else, so what it ends with is a function of the
input alone (R126). `Op` names the operations it may use. -/
inductive HostScript (Op : Type) (α : Type) where
  | value (a : α)
  | byte (off : Nat) (next : Byte → HostScript Op α)
  | word32 (off : Nat) (next : Word32 → HostScript Op α)
  | word64 (off : Nat) (next : Word64 → HostScript Op α)
  | call (op : Op) (x0 x1 x2 x3 x4 x5 : Word64) (next : Response → HostScript Op α)
  | refuse (q : Refusal)

/-- The script played on a block, over the input `B`; `instr` says which operation of the block each name is. -/
def HostScript.run {Op α : Type} (instr : Op → Instr) (B : List Byte) : HostScript Op α → HostRun α
  | .value a => hostValue a
  | .byte off next => andThen (hostFetch (fetchByte B off)) fun v => (next v).run instr B
  | .word32 off next => andThen (hostFetch (fetch32 B off)) fun v => (next v).run instr B
  | .word64 off next => andThen (hostFetch (fetch64 B off)) fun v => (next v).run instr B
  | .call op x0 x1 x2 x3 x4 x5 next =>
    andThen (callOp (opRequest (instr op) x0 x1 x2 x3 x4 x5)) fun a => (next a).run instr B
  | .refuse q => hostRefuse q

/-- The City 32-bit steps the spec leaves open are fetches and the host's own arithmetic: the long band runs in the
host alone (spec/47_composition.md R114), and what the short bands use of the block the spec gives (R110). -/
abbrev CityScript32 (α : Type) := HostScript Empty α

/-- A City 32-bit script played over the input `B`. -/
def CityScript32.play {α : Type} (B : List Byte) (p : CityScript32 α) : HostRun α := p.run Empty.elim B

/-- The operations the City 64-bit and 128-bit functions are made of (spec/41_hmix64.md R61, spec/42_hl16.md R63,
spec/43_wh32.md R66): neither avalanche is among them (spec/45_fmix.md R84). LDMUX is issued by the sequences
themselves. -/
inductive CityOp64 where
  | hmix64 (mode : Fin 6)
  | hl16
  | wh32
  deriving DecidableEq, Repr

/-- The HMIX64 operation of a mode (spec/30_encoding.md R39). -/
def hmix64Instr : Fin 6 → Instr
  | 0 => .hmix64S
  | 1 => .hmix64K0
  | 2 => .hmix64K1
  | 3 => .hmix64K2
  | 4 => .hmix64K3
  | 5 => .hmix64Kmul

/-- The operation of the block. -/
def CityOp64.instr : CityOp64 → Instr
  | .hmix64 m => hmix64Instr m
  | .hl16 => .hl16
  | .wh32 => .wh32

/-- The City 64-bit and 128-bit steps the spec leaves open. -/
abbrev CityScript64 (α : Type) := HostScript CityOp64 α

/-- A City 64-bit or 128-bit script played over the input `B`. -/
def CityScript64.play {α : Type} (B : List Byte) (p : CityScript64 α) : HostRun α := p.run CityOp64.instr B

/-- Offsets `step` bytes apart, from `first` on. -/
def strideOffsets (step first count : Nat) : List Nat := (List.range count).map fun i => first + step * i

/-! ## The state of the long paths -/

/-- The three rolling accumulators of the City 32-bit long band (spec/47_composition.md R114). -/
structure CityLanes32 where
  f : Word32
  g : Word32
  h : Word32
  deriving DecidableEq, Repr

/-- The five words one 20-byte stride fetches (spec/47_composition.md R114). -/
structure CityStride32 where
  w0 : Word32
  w1 : Word32
  w2 : Word32
  w3 : Word32
  w4 : Word32
  deriving DecidableEq, Repr

/-- The 56 bytes of rolling state of the chunk loops: `x`, `y`, `z` and the pairs `v`, `w` (spec/47_composition.md R119,
R123). -/
structure CityChunk where
  x : Word64
  y : Word64
  z : Word64
  v0 : Word64
  v1 : Word64
  w0 : Word64
  w1 : Word64
  deriving DecidableEq, Repr

/-- The words a half-step fetches at the sub-offsets `+8`, `+16`, `+40`, `+48` of its chunk (spec/47_composition.md
R119). -/
structure ChunkWords where
  at8 : Word64
  at16 : Word64
  at40 : Word64
  at48 : Word64
  deriving DecidableEq, Repr

/-- The four words of 32 bytes, in increasing byte order (spec/43_wh32.md R65). -/
structure Words32Bytes where
  w : Word64
  x : Word64
  y : Word64
  z : Word64
  deriving DecidableEq, Repr

/-- The four words `city_murmur` accumulates (spec/47_composition.md R122). -/
structure MurmurWords where
  a : Word64
  b : Word64
  c : Word64
  d : Word64
  deriving DecidableEq, Repr

/-- The four words over which the 128-bit function's closing calls are made (spec/42_hl16.md R63, spec/47_composition.md
R123). -/
structure CityClose where
  x : Word64
  y : Word64
  v1 : Word64
  w1 : Word64
  deriving DecidableEq, Repr

/-- The four words of the closing calls, taken from the rolling state. -/
def CityChunk.close (c : CityChunk) : CityClose := ⟨c.x, c.y, c.v1, c.w1⟩

/-- Two words: the operands of a HL16, a pair of seed words, a weak hash. -/
abbrev Pair64 := Word64 × Word64

/-! ## The parameters

A function that is told two numbers is told the length `n` of the input first and then the number, from 0, of the
stride, half-step or sub-step. -/

/-- What a revision supplies of the City 32-bit long band, `n > 24` (spec/47_composition.md R114;
spec/91_not_in_source.md N10). -/
structure CityLong32 where
  /-- The accumulators before the strides. -/
  start : Nat → CityScript32 CityLanes32
  /-- The offset of the first stride; the others follow it 20 bytes apart. -/
  first : Nat → Nat
  /-- The number of strides. -/
  count : Nat → Nat
  /-- One stride: mixing, permutation, byte swaps. -/
  stride : Nat → Nat → CityLanes32 → CityStride32 → CityLanes32
  /-- The final combining step into `h`. -/
  finish : Nat → CityLanes32 → Word32

/-- What a revision supplies of a chunk loop (spec/47_composition.md R119, R123; spec/91_not_in_source.md N7, N10). Each
function is told the number of the half-step, since the half-steps are only "near-identical". -/
structure CityLoop where
  /-- The new `x`, `y`, `z`. -/
  mix : Nat → Nat → CityChunk → ChunkWords → Word64 × Word64 × Word64
  /-- The seed words of the weak hash that gives `v`: of the state before the half-step, then with the new `x, y, z`. -/
  vSeeds : Nat → Nat → CityChunk → CityChunk → ChunkWords → Pair64
  /-- The seed words of the weak hash that gives `w`: of the state before the half-step, then with the new `x, y, z, v`. -/
  wSeeds : Nat → Nat → CityChunk → CityChunk → ChunkWords → Pair64

/-- What a short band of the City 64-bit function feeds to the 16-byte compressor: `u`, `v`, and the multiplier of a
compressor that is not HL16 (spec/47_composition.md R117). -/
structure CityFeed where
  u : Word64
  v : Word64
  mul : Option Word64
  deriving DecidableEq, Repr

/-- What a revision supplies of `city_hash64` (spec/47_composition.md R117 to R119). -/
structure CityLong64 where
  /-- `4 <= n <= 16`: what is fed to the compressor (R117). -/
  short : Nat → CityScript64 CityFeed
  /-- `17 <= n <= 32`: what is fed to HL16 (R118). -/
  band1 : Nat → CityScript64 Pair64
  /-- `33 <= n <= 64`: what is fed to HL16 (R118). -/
  band2 : Nat → CityScript64 Pair64
  /-- `n > 64` (R119): the state before the loop. -/
  start : Nat → CityScript64 CityChunk
  loop : CityLoop
  /-- The offset of the first 64-byte chunk; the others follow it 64 bytes apart. -/
  first : Nat → Nat
  /-- The number of iterations, one for each chunk. -/
  iterations : Nat → Nat
  /-- An iteration makes two half-steps on its chunk, as R119 has it, or one: a point on which the spec chooses no
  revision (spec/90_conflicts.md C5). -/
  twoHalfSteps : Bool
  /-- The word that is shift-mixed in the final combination and the mode, for its multiplier (spec/41_hmix64.md R61). -/
  shift : Nat → CityChunk → CityScript64 (Fin 6 × Word64)
  /-- What is fed to the closing HL16, from the state and the shift-mixed word. -/
  close : Nat → CityChunk → Word64 → CityScript64 Pair64

/-- What a revision supplies of `city_murmur` for `16 < n < 128` (spec/47_composition.md R122). The closing calls follow
the last stride. -/
structure CityMurmurLong where
  /-- The setup from the two seed halves. -/
  start : Word64 → Word64 → Nat → CityScript64 MurmurWords
  /-- The offset of the first stride; the others follow it 16 bytes apart. -/
  first : Nat → Nat
  /-- The number of strides. -/
  count : Nat → Nat
  /-- One stride, from the shift-mixed two words of its 16 bytes. -/
  stride : Nat → Nat → MurmurWords → Word64 → Word64 → MurmurWords

/-- What a revision supplies of `hash128_with_seed` for `n >= 128` (spec/47_composition.md R123). -/
structure CityLong128 where
  /-- The state before the loop, from the two seed halves. -/
  start : Word64 → Word64 → Nat → CityScript64 CityChunk
  loop : CityLoop
  /-- What stands between the last half-step and the tail; the identity for a revision with no step there. -/
  settle : Nat → CityChunk → CityScript64 CityChunk
  /-- The tail sub-steps go from the highest offset down. -/
  tailDown : Bool
  /-- The state as a tail sub-step brings it to its weak hash. -/
  tailMix : Nat → Nat → CityChunk → Words32Bytes → CityChunk
  /-- The seed words of a tail sub-step's weak hash. -/
  tailSeeds : Nat → Nat → CityChunk → Pair64
  /-- The state with the pair that weak hash gives folded in. -/
  tailFold : Nat → Nat → CityChunk → Pair64 → CityChunk
  /-- What stands between the tail and the closing calls; the identity for a revision with no step there. -/
  prepare : Nat → CityChunk → CityScript64 CityChunk
  /-- The operands of the two inner HL16, from `x, y, v1, w1`. -/
  inner : Nat → CityClose → Pair64 × Pair64
  /-- The operands of the two outer HL16, from `x, y, v1, w1` and the two inner results. -/
  outer : Nat → CityClose → Pair64 → Pair64 × Pair64
  /-- `low` and `high`, from `x, y, v1, w1`, the two inner and the two outer results. -/
  halves : Nat → CityClose → Pair64 → Pair64 → Pair64

/-- `CITY_REV` (spec/92_eei_decisions.md D28): everything the City host sequences need that the spec does not supply. -/
structure CityRev where
  long32 : CityLong32
  hash64 : CityLong64
  murmur : CityMurmurLong
  long128 : CityLong128

/-- The operands of a short City 32-bit band: the accumulator its chain of HMIX32 starts with, and its `k` words
(spec/40_hmix32.md R57). -/
abbrev CityChain32 (k : Nat) := Word32 × Vector Word32 k

/-- `CITY32_SEED_USE` (spec/92_eei_decisions.md D27): how a nonzero seed enters the City 32-bit function. The shape of
R110 holds for every seed: the band from LDMUX.C32, a chain of 2, 3 or 6 HMIX32 in the short bands, and the FMIX32
that ends every such path (spec/45_fmix.md R84). Each function is told the seed. -/
structure CitySeedUse32 where
  band0 : Word32 → Nat → CityScript32 (CityChain32 2)
  band1 : Word32 → Nat → CityScript32 (CityChain32 3)
  band2 : Word32 → Nat → CityScript32 (CityChain32 6)
  /-- The long band, from that of the revision. -/
  long : Word32 → CityLong32 → CityLong32

/-! ## None chosen

The spec chooses no value of either parameter (spec/00_scope.md R5). Each path refuses at its first open step (log 15),
so that the functions after it are never called. -/

/-- A loop that is never reached. -/
def CityLoop.unreached : CityLoop :=
  { mix := fun _ _ c _ => (c.x, c.y, c.z)
    vSeeds := fun _ _ c _ _ => (c.v0, c.v1)
    wSeeds := fun _ _ c _ _ => (c.w0, c.w1) }

/-- No steps of the City 32-bit long band. -/
def CityLong32.noneChosen : CityLong32 :=
  { start := fun _ => .refuse .citySequenceNotGiven
    first := fun _ => 0
    count := fun _ => 0
    stride := fun _ _ l _ => l
    finish := fun _ l => l.h }

/-- No steps of `city_hash64` but those the spec gives. -/
def CityLong64.noneChosen : CityLong64 :=
  { short := fun _ => .refuse .citySequenceNotGiven
    band1 := fun _ => .refuse .citySequenceNotGiven
    band2 := fun _ => .refuse .citySequenceNotGiven
    start := fun _ => .refuse .citySequenceNotGiven
    loop := .unreached
    first := fun _ => 0
    iterations := fun _ => 0
    twoHalfSteps := true
    shift := fun _ _ => .refuse .citySequenceNotGiven
    close := fun _ _ _ => .refuse .citySequenceNotGiven }

/-- No steps of the long `city_murmur`. -/
def CityMurmurLong.noneChosen : CityMurmurLong :=
  { start := fun _ _ _ => .refuse .citySequenceNotGiven
    first := fun _ => 0
    count := fun _ => 0
    stride := fun _ _ m _ _ => m }

/-- No steps of the long 128-bit function. -/
def CityLong128.noneChosen : CityLong128 :=
  { start := fun _ _ _ => .refuse .citySequenceNotGiven
    loop := .unreached
    settle := fun _ c => .value c
    tailDown := false
    tailMix := fun _ _ c _ => c
    tailSeeds := fun _ _ c => (c.v0, c.v1)
    tailFold := fun _ _ c _ => c
    prepare := fun _ c => .value c
    inner := fun _ q => ((q.x, q.v1), (q.y, q.w1))
    outer := fun _ _ i => (i, i)
    halves := fun _ _ _ o => o }

/-- No revision. -/
def CityRev.noneChosen : CityRev := ⟨.noneChosen, .noneChosen, .noneChosen, .noneChosen⟩

/-- No use of a nonzero seed. -/
def CitySeedUse32.noneChosen : CitySeedUse32 :=
  { band0 := fun _ _ => .refuse .citySeedUseOpen
    band1 := fun _ _ => .refuse .citySeedUseOpen
    band2 := fun _ _ => .refuse .citySeedUseOpen
    long := fun _ l => { l with start := fun _ => .refuse .citySeedUseOpen } }

end Sys2Proof.Machine
end

