-- ==== Sys2Proof/Machine/City.lean ====
section
/-!
DEFINITION. The City family as the host sequences it on the block (spec/47_composition.md R110 to R125). Steps the spec
does not supply come from the argument `rev`, the open `CITY_REV`, and the use of a nonzero 32-bit seed from `seedUse`,
the open `CITY32_SEED_USE` (log 15). The paths no known vector reaches are marked UNVERIFIED (log 14).
-/

namespace Sys2Proof.Machine

/-! ## city_hash32 (spec/47_composition.md R110 to R114) -/

/-- The per-byte step of the shortest band, on `(b, c)`: the byte is sign-extended (spec/47_composition.md R111;
UNVERIFIED for bytes of 0x80 and more, log 16). -/
def cityByteStep (p : Word32 × Word32) (v : Byte) : Word32 × Word32 :=
  let b := p.1 * c1 + v.signExtend 32
  (b, p.2 ^^^ b)

/-- A chain of HMIX32, each result the accumulator of the next (spec/40_hmix32.md R57). -/
def hmix32Chain : List Word32 → Word32 → HostRun Word32
  | [], h => hostValue h
  | a :: as, h =>
    andThen (callOp (opRequest .hmix32 (zext64 a) (zext64 h))) fun r => hmix32Chain as (lo32 r.y0)

/-- The chain and the closing FMIX32 of the short bands (spec/47_composition.md R110). -/
def cityFinish32 (ws : List Word32) (h : Word32) : HostRun Word32 :=
  andThen (hmix32Chain ws h) fun t =>
  andThen (callOp (opRequest .fmix32 (zext64 t))) fun d => hostValue (lo32 d.y0)

/-- Band 0, `0 <= n <= 4` (spec/47_composition.md R111). -/
def cityBand0Hash32 (B : List Byte) : HostRun Word32 :=
  let p := B.foldl cityByteStep (0, 9)
  cityFinish32 [lo32 (inputLength B), p.1] p.2

/-- Band 1, `5 <= n <= 12` (spec/47_composition.md R112; UNVERIFIED, log 14). -/
def cityBand1Hash32 (B : List Byte) : HostRun Word32 :=
  let n := B.length
  let w := lo32 (inputLength B)
  andThen (hostFetch (fetch32 B 0)) fun f0 =>
  andThen (hostFetch (fetch32 B (n - 4))) fun f1 =>
  andThen (hostFetch (fetch32 B ((n >>> 1) &&& 4))) fun f2 =>
  cityFinish32 [w + f0, w * 5 + f1, 9 + f2] (w * 5)

/-- Band 2, `13 <= n <= 24` (spec/47_composition.md R113; UNVERIFIED, log 14). -/
def cityBand2Hash32 (B : List Byte) : HostRun Word32 :=
  let n := B.length
  andThen (hostFetch (fetch32 B ((n >>> 1) - 4))) fun a =>
  andThen (hostFetch (fetch32 B 4)) fun b =>
  andThen (hostFetch (fetch32 B (n - 8))) fun c =>
  andThen (hostFetch (fetch32 B (n >>> 1))) fun d =>
  andThen (hostFetch (fetch32 B 0)) fun e =>
  andThen (hostFetch (fetch32 B (n - 4))) fun f =>
  cityFinish32 [a, b, c, d, e, f] (lo32 (inputLength B))

/-- The five words of a 20-byte stride (spec/47_composition.md R114). -/
def fetchStride32 (B : List Byte) (off : Nat) : HostRun CityStride32 :=
  andThen (hostFetch (fetch32 B off)) fun w0 =>
  andThen (hostFetch (fetch32 B (off + 4))) fun w1 =>
  andThen (hostFetch (fetch32 B (off + 8))) fun w2 =>
  andThen (hostFetch (fetch32 B (off + 12))) fun w3 =>
  andThen (hostFetch (fetch32 B (off + 16))) fun w4 =>
  hostValue ⟨w0, w1, w2, w3, w4⟩

/-- The 20-byte strides from number `i` on (spec/47_composition.md R114): the host's own arithmetic. -/
def cityStrides32 (long : CityLong32) (B : List Byte) : Nat → List Nat → CityLanes32 → HostRun CityLanes32
  | _, [], l => hostValue l
  | i, off :: offs, l =>
    andThen (fetchStride32 B off) fun w => cityStrides32 long B (i + 1) offs (long.stride B.length i l w)

/-- Band 3, `n > 24` (spec/47_composition.md R114): strides 20 bytes apart; the digest is the `h` the final combining step
gives, with no FMIX32. -/
def cityLongHash32 (long : CityLong32) (B : List Byte) : HostRun Word32 :=
  andThen (CityScript32.play B (long.start B.length)) fun l =>
  andThen (cityStrides32 long B 0 (strideOffsets 20 (long.first B.length) (long.count B.length)) l) fun l =>
  hostValue (long.finish B.length l)

/-- The band of LDMUX.C32 for seed 0 (spec/47_composition.md R110). -/
def cityBandHash32 (rev : CityRev) (B : List Byte) (band : Word64) : HostRun Word32 :=
  if band = 0 then cityBand0Hash32 B
  else if band = 1 then cityBand1Hash32 B
  else if band = 2 then cityBand2Hash32 B
  else cityLongHash32 rev.long32 B

/-- A short band on the chain its script gives (spec/40_hmix32.md R57, spec/47_composition.md R110). -/
def cityChainHash32 {k : Nat} (B : List Byte) (p : CityScript32 (CityChain32 k)) : HostRun Word32 :=
  andThen (CityScript32.play B p) fun c => cityFinish32 c.2.toList c.1

/-- The band of LDMUX.C32 for a nonzero seed (spec/47_composition.md R110). -/
def citySeededBandHash32 (rev : CityRev) (seedUse : CitySeedUse32) (seed : Word32) (B : List Byte) (band : Word64) :
    HostRun Word32 :=
  if band = 0 then cityChainHash32 B (seedUse.band0 seed B.length)
  else if band = 1 then cityChainHash32 B (seedUse.band1 seed B.length)
  else if band = 2 then cityChainHash32 B (seedUse.band2 seed B.length)
  else cityLongHash32 (seedUse.long seed rev.long32) B

/-- `city_hash32(data, seed)`, the seed 0 by default (spec/47_composition.md R100, R110). -/
def cityHash32 (rev : CityRev) (seedUse : CitySeedUse32) (B : List Byte) (seed : Word32 := 0) : HostRun Word32 :=
  andThen (callOp (opRequest .ldmuxC32 (inputLength B))) fun d =>
  if seed = 0 then cityBandHash32 rev B d.y0
  else citySeededBandHash32 rev seedUse seed B d.y0

/-! ## The chunk loops (spec/43_wh32.md R66, spec/47_composition.md R119, R123) -/

/-- The four little-endian words of the 32 bytes at `off` (spec/43_wh32.md R65). -/
def fetch32Bytes (B : List Byte) (off : Nat) : HostRun Words32Bytes :=
  andThen (hostFetch (fetch64 B off)) fun w =>
  andThen (hostFetch (fetch64 B (off + 8))) fun x =>
  andThen (hostFetch (fetch64 B (off + 16))) fun y =>
  andThen (hostFetch (fetch64 B (off + 24))) fun z => hostValue ⟨w, x, y, z⟩

/-- One WH32 transaction on 32 bytes and two seed words: `Y[0]` is the pair's element 0 and `Y[1]` its element 1
(spec/43_wh32.md R66). -/
def callWh32 (p : Words32Bytes) (seeds : Pair64) : HostRun Pair64 :=
  andThen (callOp (opRequest .wh32 p.w p.x p.y p.z seeds.1 seeds.2)) fun r => hostValue (r.y0, r.y1)

/-- Half-step number `i` on the 64-byte chunk at `off` (spec/47_composition.md R119): the new `x, y, z` from the words at
`+8, +16, +40, +48`, the new `v` by one WH32 on the first 32 bytes of the chunk and the new `w` by one on the second
(spec/43_wh32.md R66), and `x` and `z` swapped at the end. -/
def cityHalfStep (loop : CityLoop) (B : List Byte) (i off : Nat) (c : CityChunk) : HostRun CityChunk :=
  andThen (hostFetch (fetch64 B (off + 8))) fun at8 =>
  andThen (hostFetch (fetch64 B (off + 16))) fun at16 =>
  andThen (hostFetch (fetch64 B (off + 40))) fun at40 =>
  andThen (hostFetch (fetch64 B (off + 48))) fun at48 =>
  let words : ChunkWords := ⟨at8, at16, at40, at48⟩
  let xyz := loop.mix B.length i c words
  let c1 := { c with x := xyz.1, y := xyz.2.1, z := xyz.2.2 }
  andThen (fetch32Bytes B off) fun p =>
  andThen (callWh32 p (loop.vSeeds B.length i c c1 words)) fun v =>
  let c2 := { c1 with v0 := v.1, v1 := v.2 }
  andThen (fetch32Bytes B (off + 32)) fun q =>
  andThen (callWh32 q (loop.wSeeds B.length i c c2 words)) fun w =>
  hostValue { c2 with w0 := w.1, w1 := w.2, x := c2.z, z := c2.x }

/-- The half-steps from number `i` on. -/
def cityHalfSteps (loop : CityLoop) (B : List Byte) : Nat → List Nat → CityChunk → HostRun CityChunk
  | _, [], c => hostValue c
  | i, off :: offs, c => andThen (cityHalfStep loop B i off c) fun c => cityHalfSteps loop B (i + 1) offs c

/-! ## The compressor and the shift-mix -/

/-- One HL16 transaction (spec/42_hl16.md R62). -/
def callHl16 (p : Pair64) : HostRun Word64 :=
  andThen (callOp (opRequest .hl16 p.1 p.2)) fun r => hostValue r.y0

/-- One HMIX64 transaction of mode `m` (spec/41_hmix64.md R58). -/
def callHmix64 (m : Fin 6) (v : Word64) : HostRun Word64 :=
  andThen (callOp (opRequest (hmix64Instr m) v)) fun r => hostValue r.y0

/-- A 16-byte compressor: HL16, or for a multiplier that HL16 does not offer the same rounds from HMIX64.S and the
host's own multiplies (spec/47_composition.md R117). -/
def cityCompress (f : CityFeed) : HostRun Word64 :=
  match f.mul with
  | none => callHl16 (f.u, f.v)
  | some m =>
    andThen (callHmix64 0 ((f.u ^^^ f.v) * m)) fun a =>
    andThen (callHmix64 0 ((f.v ^^^ a) * m)) fun b => hostValue (b * m)

/-! ## city_hash64 (spec/47_composition.md R115 to R120) -/

/-- The case `1 <= n <= 3` (spec/47_composition.md R116). -/
def cityTinyHash64 (B : List Byte) : HostRun Word64 :=
  let n := B.length
  andThen (hostFetch (fetchByte B 0)) fun a =>
  andThen (hostFetch (fetchByte B (n >>> 1))) fun b =>
  andThen (hostFetch (fetchByte B (n - 1))) fun c =>
  let y : Word32 := a.setWidth 32 + (b.setWidth 32 <<< 8)
  let z : Word32 := lo32 (inputLength B) + (c.setWidth 32 <<< 2)
  let v := (zext64 y * k2) ^^^ (zext64 z * k3)
  andThen (callOp (opRequest .hmix64K2 v)) fun r => hostValue r.y0

/-- Band 0, `n <= 16` (spec/47_composition.md R116 and, for the empty input and from 4 bytes on, R117: the empty input is
UNVERIFIED, log 14; from 4 bytes on the published revisions differ). The 1-to-3-byte case alone does not pass through
a compressor (spec/42_hl16.md R63). -/
def cityBand0Hash64 (rev : CityRev) (B : List Byte) : HostRun Word64 :=
  if B.length = 0 then hostValue k2
  else if B.length ≤ 3 then cityTinyHash64 B
  else andThen (CityScript64.play B (rev.hash64.short B.length)) cityCompress

/-- Bands 1 and 2: a closed-form mixer feeding HL16 (spec/42_hl16.md R63, spec/47_composition.md R118). -/
def cityMidHash64 (B : List Byte) (p : CityScript64 Pair64) : HostRun Word64 :=
  andThen (CityScript64.play B p) callHl16

/-- The offset of each half-step of the 64-bit loop: the iterations advance by 64 bytes, and both half-steps of one that
makes two work on its chunk (spec/47_composition.md R119, spec/90_conflicts.md C5). -/
def halfStepOffsets64 (long : CityLong64) (n : Nat) : List Nat :=
  (strideOffsets 64 (long.first n) (long.iterations n)).flatMap fun off =>
    if long.twoHalfSteps then [off, off] else [off]

/-- Band 3, `n > 64` (spec/47_composition.md R119): the half-steps on chunks 64 bytes apart, then the final combination
through the shift-mix and HL16 (spec/41_hmix64.md R61, spec/42_hl16.md R63). -/
def cityLongHash64 (long : CityLong64) (B : List Byte) : HostRun Word64 :=
  let n := B.length
  andThen (CityScript64.play B (long.start n)) fun c =>
  andThen (cityHalfSteps long.loop B 0 (halfStepOffsets64 long n) c) fun c =>
  andThen (CityScript64.play B (long.shift n c)) fun q =>
  andThen (callHmix64 q.1 q.2) fun m =>
  andThen (CityScript64.play B (long.close n c m)) callHl16

/-- `city_hash64(data)` (spec/47_composition.md R115). -/
def cityHash64 (rev : CityRev) (B : List Byte) : HostRun Word64 :=
  andThen (callOp (opRequest .ldmuxC64 (inputLength B))) fun d =>
  if d.y0 = 0 then cityBand0Hash64 rev B
  else if d.y0 = 1 then cityMidHash64 B (rev.hash64.band1 B.length)
  else if d.y0 = 2 then cityMidHash64 B (rev.hash64.band2 B.length)
  else cityLongHash64 rev.hash64 B

/-- `city_hash64(data, seed0, seed1)` (spec/47_composition.md R120; the operands of the closing HL16 are UNVERIFIED, log
14). -/
def cityHash64WithSeeds (rev : CityRev) (B : List Byte) (seed0 seed1 : Word64) : HostRun Word64 :=
  andThen (cityHash64 rev B) fun d0 =>
  callHl16 (d0 - seed0, seed1)

/-- `city_hash64(data, seed)` (spec/47_composition.md R120; UNVERIFIED, log 14). -/
def cityHash64WithSeed (rev : CityRev) (B : List Byte) (seed : Word64) : HostRun Word64 :=
  cityHash64WithSeeds rev B k2 seed

/-! ## city_hash128 (spec/47_composition.md R121 to R125) -/

/-- The three closing HL16 transactions of `city_murmur` (spec/47_composition.md R121, R122): `{high, low}`. In the short
case the word `b` is the seed half `sb` (R121). For the long one the spec does not say which word stands in its place:
the accumulated `b`, DESIGN CHOICE, log 15. -/
def cityMurmurFinish (m : MurmurWords) : HostRun (BitVec 128) :=
  andThen (callHl16 (m.a, m.c)) fun a2 =>
  andThen (callHl16 (m.d, m.b)) fun b2 =>
  let low := a2 ^^^ b2
  andThen (callHl16 (b2, a2)) fun high => hostValue (high ++ low : BitVec 128)

/-- The closed-form short case of `city_murmur` (spec/47_composition.md R121); its inner step is the City 64-bit function
on the same bytes, of which LDMUX.CMUR has said that they are at most 16. -/
def cityMurmurShort (rev : CityRev) (sa sb : Word64) (B : List Byte) : HostRun (BitVec 128) :=
  andThen (callHmix64 2 (sa * k1)) fun a =>
  andThen (cityHash64 rev B) fun h0 =>
  let c := sb * k1 + h0
  andThen (if 8 ≤ B.length then hostFetch (fetch64 B 0) else hostValue c) fun w =>
  andThen (callHmix64 0 (a + w)) fun d =>
  cityMurmurFinish ⟨a, sb, c, d⟩

/-- The 16-byte strides of `city_murmur` from number `i` on: each word times `K1`, shift-mixed and times `K1` again by
HMIX64.K1 (spec/47_composition.md R122; UNVERIFIED, log 14). -/
def cityMurmurStrides (long : CityMurmurLong) (B : List Byte) : Nat → List Nat → MurmurWords → HostRun MurmurWords
  | _, [], m => hostValue m
  | i, off :: offs, m =>
    andThen (hostFetch (fetch64 B off)) fun f0 =>
    andThen (callHmix64 2 (f0 * k1)) fun s0 =>
    andThen (hostFetch (fetch64 B (off + 8))) fun f1 =>
    andThen (callHmix64 2 (f1 * k1)) fun s1 =>
    cityMurmurStrides long B (i + 1) offs (long.stride B.length i m s0 s1)

/-- `city_murmur` for `16 < n < 128`: strides 16 bytes apart and the closing calls (spec/47_composition.md R122). -/
def cityMurmurLong (long : CityMurmurLong) (sa sb : Word64) (B : List Byte) : HostRun (BitVec 128) :=
  andThen (CityScript64.play B (long.start sa sb B.length)) fun m =>
  andThen (cityMurmurStrides long B 0 (strideOffsets 16 (long.first B.length) (long.count B.length)) m)
    cityMurmurFinish

/-- `city_murmur` (spec/47_composition.md R121, R122). -/
def cityMurmur (rev : CityRev) (sa sb : Word64) (B : List Byte) : HostRun (BitVec 128) :=
  andThen (callOp (opRequest .ldmuxCMur (inputLength B))) fun d =>
  if d.y0 = 0 then cityMurmurShort rev sa sb B else cityMurmurLong rev.murmur sa sb B

/-- The 32-byte tail sub-steps from number `i` on, one WH32 each (spec/47_composition.md R123). -/
def cityTailSteps (long : CityLong128) (B : List Byte) : Nat → List Nat → CityChunk → HostRun CityChunk
  | _, [], c => hostValue c
  | i, off :: offs, c =>
    andThen (fetch32Bytes B off) fun p =>
    let c1 := long.tailMix B.length i c p
    andThen (callWh32 p (long.tailSeeds B.length i c1)) fun v =>
    cityTailSteps long B (i + 1) offs (long.tailFold B.length i c1 v)

/-- The offset of each half-step of the 128-bit loop: pairs on 128 bytes at a time from the start of the input, as long
as 128 bytes remain, so that fewer than 128 remain after it (spec/47_composition.md R123). -/
def halfStepOffsets128 (n : Nat) : List Nat := strideOffsets 64 0 (2 * (n / 128))

/-- How many 32-byte sub-steps the bytes that remain after the loop take: none of them is dropped (spec/47_composition.md
R123). -/
def tailCount (n : Nat) : Nat := (n % 128 + 31) / 32

/-- The offset of each tail sub-step: 32 bytes apart, the highest ending where the input ends, so that they take in every
byte that remains and none past the input (spec/47_composition.md R123, spec/20_memory.md R28; DEDUCED, log 15). -/
def tailOffsets (down : Bool) (n : Nat) : List Nat :=
  let up := strideOffsets 32 (n - 32 * tailCount n) (tailCount n)
  if down then up.reverse else up

/-- The closing calls of the 128-bit function: nested HL16 over `x, y, v1, w1`, two inner and two outer ones
(spec/42_hl16.md R63, spec/47_composition.md R123; their number is a DESIGN CHOICE, log 15); `high` is the upper half, as
in R121. -/
def cityNestedClose (long : CityLong128) (n : Nat) (q : CityClose) : HostRun (BitVec 128) :=
  let inner := long.inner n q
  andThen (callHl16 inner.1) fun i0 =>
  andThen (callHl16 inner.2) fun i1 =>
  let outer := long.outer n q (i0, i1)
  andThen (callHl16 outer.1) fun o0 =>
  andThen (callHl16 outer.2) fun o1 =>
  let halves := long.halves n q (i0, i1) (o0, o1)
  hostValue (halves.2 ++ halves.1 : BitVec 128)

/-- `hash128_with_seed` for `n >= 128`: paired half-steps on chunks 64 bytes apart, the tail sub-steps, the closing calls
(spec/47_composition.md R123). -/
def cityLongHash128 (long : CityLong128) (sa sb : Word64) (B : List Byte) : HostRun (BitVec 128) :=
  let n := B.length
  andThen (CityScript64.play B (long.start sa sb n)) fun c =>
  andThen (cityHalfSteps long.loop B 0 (halfStepOffsets128 n) c) fun c =>
  andThen (CityScript64.play B (long.settle n c)) fun c =>
  andThen (cityTailSteps long B 0 (tailOffsets long.tailDown n) c) fun c =>
  andThen (CityScript64.play B (long.prepare n c)) fun c => cityNestedClose long n c.close

/-- The seeded City 128-bit function, its seed given as the two halves (log 18; spec/47_composition.md R121, R123). -/
def cityHash128WithSeed (rev : CityRev) (B : List Byte) (sa sb : Word64) : HostRun (BitVec 128) :=
  andThen (callOp (opRequest .ldmuxC128S (inputLength B))) fun d =>
  if d.y0 = 0 then cityMurmur rev sa sb B else cityLongHash128 rev.long128 sa sb B

/-- `city_hash128(data)`: the seed comes from the leading bytes and the suffix excludes them (spec/47_composition.md
R121, R124, R125; bands 1 and 2 UNVERIFIED, log 14). -/
def cityHash128 (rev : CityRev) (B : List Byte) : HostRun (BitVec 128) :=
  andThen (callOp (opRequest .ldmuxC128U (inputLength B))) fun d =>
  if d.y0 = 0 then cityHash128WithSeed rev B k0 k1
  else if d.y0 = 1 then
    andThen (hostFetch (fetch64 B 0)) fun f0 =>
    andThen (hostFetch (fetch64 B (B.length - 8))) fun f1 =>
    cityHash128WithSeed rev [] (f0 ^^^ (inputLength B * k0)) (f1 ^^^ k1)
  else
    andThen (hostFetch (fetch64 B 0)) fun f0 =>
    andThen (hostFetch (fetch64 B 8)) fun f1 =>
    cityHash128WithSeed rev (B.drop 16) (f0 ^^^ k3) f1

end Sys2Proof.Machine
end

