-- ==== Sys2Proof/Machine/Instances.lean ====
section
/-!
DEFINITION. Several blocks (spec/60_exceptions.md R142): each instance has a state of its own and they share nothing.
-/

namespace Sys2Proof.Machine

/-- A clock edge of instance `k`; the others do not change. There is no event for an instance that does not exist. -/
def stepInstance (blocks : List State) (k : Nat) : Host.Outcome (List State) Fault Refusal :=
  match blocks[k]? with
  | none => .next blocks
  | some s =>
    match step s with
    | .next t => .next (blocks.set k t)
    | .fault f => .fault f
    | .refused q => .refused q

end Sys2Proof.Machine
end

