-- ==== Sys2Proof/Machine/Murmur3.lean ====
section
/-!
DEFINITION. The Murmur3 family as the host sequences it on the block (spec/47_composition.md R103 to R108).
-/

namespace Sys2Proof.Machine

/-! ## murmur3_hash32 (spec/47_composition.md R103) -/

/-- The body blocks from block `i` on. -/
def murmurBlocks32 (B : List Byte) : Nat → Nat → Word32 → HostRun Word32
  | 0, _, h => hostValue h
  | count + 1, i, h =>
    andThen (hostFetch (fetch32 B (4 * i))) fun k =>
    andThen (callOp (opRequest .m3X32B (zext64 h) 0 (zext64 k))) fun r =>
    murmurBlocks32 B count (i + 1) (lo32 r.y0)

/-- `murmur3_hash32(data, seed)` (spec/47_composition.md R103). -/
def murmur3Hash32 (B : List Byte) (seed : Word32 := 0) : HostRun Word32 :=
  andThen (callOp (opRequest .ldmuxM32 (inputLength B))) fun d =>
  andThen (murmurBlocks32 B d.y1.toNat 0 seed) fun h =>
  andThen (hostFetch (fetchTail B (4 * d.y1.toNat) (d.y0.extractLsb' 0 4).toNat)) fun t =>
  andThen (callOp ⟨tailCommand (.m3X32T 0) d.y0, zext64 h, 0, t.extractLsb' 0 64, 0, 0, 0⟩) fun r =>
  andThen (callOp (opRequest .fmix32 (zext64 (lo32 r.y0 ^^^ lo32 (inputLength B))))) fun f =>
  hostValue (lo32 f.y0)

/-! ## murmur3_hash128, 32-bit lanes (spec/47_composition.md R104) -/

/-- Two packed fields, the state or the bytes of a 16-byte block. -/
abbrev Word128Pair := Word64 × Word64

/-- The body blocks from block `i` on, for either 128-bit variant's body operation. -/
def murmurBlocks128 (op : Instr) (B : List Byte) : Nat → Nat → Word128Pair → HostRun Word128Pair
  | 0, _, h => hostValue h
  | count + 1, i, h =>
    andThen (hostFetch (fetch64 B (16 * i))) fun lo =>
    andThen (hostFetch (fetch64 B (16 * i + 8))) fun hi =>
    andThen (callOp (opRequest op h.1 h.2 lo hi)) fun r =>
    murmurBlocks128 op B count (i + 1) (r.y0, r.y1)

/-- The LDMUX, the body blocks and the tail of either 128-bit variant: the lanes after the tail. -/
def murmurLanes128 (ldmux body tail : Instr) (B : List Byte) (h : Word128Pair) : HostRun Word128Pair :=
  andThen (callOp (opRequest ldmux (inputLength B))) fun d =>
  andThen (murmurBlocks128 body B d.y1.toNat 0 h) fun h =>
  andThen (hostFetch (fetchTail B (16 * d.y1.toNat) (d.y0.extractLsb' 0 4).toNat)) fun t =>
  andThen (callOp ⟨tailCommand tail d.y0, h.1, h.2, t.extractLsb' 0 64, t.extractLsb' 64 64, 0, 0⟩) fun r =>
  hostValue (r.y0, r.y1)

/-- The four 32-bit lanes, in the host. -/
structure Lanes32 where
  h1 : Word32
  h2 : Word32
  h3 : Word32
  h4 : Word32
  deriving DecidableEq, Repr

/-- The cross-lane addition pass (spec/47_composition.md R104): the new `h1` goes into the others. -/
def crossLanes32 (l : Lanes32) : Lanes32 :=
  let h1 := l.h1 + l.h2 + l.h3 + l.h4
  ⟨h1, l.h2 + h1, l.h3 + h1, l.h4 + h1⟩

/-- One FMIX32 transaction. -/
def callFmix32 (h : Word32) : HostRun Word32 :=
  andThen (callOp (opRequest .fmix32 (zext64 h))) fun r => hostValue (lo32 r.y0)

/-- `murmur3_hash128(data, seed)`: `h1` is the most significant lane of the digest (spec/47_composition.md R104,
R106). -/
def murmur3Hash128 (B : List Byte) (seed : Word32 := 0) : HostRun (BitVec 128) :=
  andThen (murmurLanes128 .ldmuxM86 .m3X86B (.m3X86T 0) B (pack seed seed, pack seed seed)) fun s =>
  let m := lo32 (inputLength B)
  let l := crossLanes32 ⟨lo32 s.1 ^^^ m, hi32 s.1 ^^^ m, lo32 s.2 ^^^ m, hi32 s.2 ^^^ m⟩
  andThen (callFmix32 l.h1) fun h1 =>
  andThen (callFmix32 l.h2) fun h2 =>
  andThen (callFmix32 l.h3) fun h3 =>
  andThen (callFmix32 l.h4) fun h4 =>
  let l := crossLanes32 ⟨h1, h2, h3, h4⟩
  hostValue (l.h1 ++ l.h2 ++ l.h3 ++ l.h4 : BitVec 128)

/-! ## murmur3_hash128_x64, 64-bit lanes (spec/47_composition.md R105) -/

/-- One FMIX64 transaction. -/
def callFmix64 (k : Word64) : HostRun Word64 :=
  andThen (callOp (opRequest .fmix64 k)) fun r => hostValue r.y0

/-- `murmur3_hash128_x64(data, seed)`: the 32-bit seed is zero-extended into both lanes (spec/47_composition.md R105,
R106). -/
def murmur3Hash128X64 (B : List Byte) (seed : Word32 := 0) : HostRun (BitVec 128) :=
  andThen (murmurLanes128 .ldmuxM64 .m3X64B (.m3X64T 0) B (zext64 seed, zext64 seed)) fun s =>
  let n := inputLength B
  let h1 := (s.1 ^^^ n) + (s.2 ^^^ n)
  let h2 := (s.2 ^^^ n) + h1
  andThen (callFmix64 h1) fun h1 =>
  andThen (callFmix64 h2) fun h2 =>
  let h1 := h1 + h2
  let h2 := h2 + h1
  hostValue (h1 ++ h2 : BitVec 128)

end Sys2Proof.Machine
end

