-- ==== Sys2Proof/Safety.lean ====
section
/-!
DEFINITION. The terms claims about the block are made in: the three phases of its life (spec/10_state.md R19), what a
state that holds a response must satisfy (R13), what an operation's answer and frame are (R12, R14), which operand bits
an operation reads (spec/30_encoding.md R36), the tail as the source tells it (spec/44_m3mix.md R80) and the host's
duties (spec/70_reset_and_hazards.md R150).
-/

namespace Sys2Proof.Machine

/-! ## The phases (spec/10_state.md R19) -/

/-- EMPTY, BUSY and DONE. -/
inductive Phase where
  | empty
  | busy
  | done
  deriving DecidableEq, Repr

/-- The phase of a state; none for `BUSY = 1, VALID = 1`, which R19 says never occurs. -/
def State.phase (s : State) : Option Phase :=
  match s.busy, s.status.valid with
  | false, false => some .empty
  | true, false => some .busy
  | false, true => some .done
  | true, true => none

/-- The state is in a phase of R19 and its status says what R13 and R23 have it say there: 0 in EMPTY; in DONE an
error exactly when the cause is not 0, and then the zeros of the error response (spec/60_exceptions.md R133). Nothing
is left to wait for when no operation is in flight. -/
abbrev State.phaseInv (s : State) : Prop :=
  s.phase ≠ none ∧
  (s.phase = some .empty → s.status.err = false ∧ s.status.code = 0) ∧
  (s.phase = some .done → (s.status.err = false ↔ s.status.code = 0)) ∧
  (s.phase = some .done → s.status.err = true → s.y0 = 0 ∧ s.y1 = 0) ∧
  (s.busy = false → s.waitLeft = 0)

/-- `VALID = 1` means that the response of the most recently accepted request stands on the ports
(spec/10_state.md R13): it is `EXEC` of the captured request. -/
abbrev State.responseInv (s : State) : Prop :=
  s.phaseInv ∧ (s.status.valid = true → execResponse s.params s.captured = some s.response)

/-! ## Answers and frames -/

/-- `exec i` answers with `y0` and `y1`: both result registers, the three status fields of a legal operation and `BUSY`
are written, and nothing else changes (spec/10_state.md R12 to R14). -/
abbrev Answers (i : Instr) (s : State) (y0 y1 : Word64) : Prop :=
  exec i s = .next
    { s with y0 := y0, y1 := y1, status := ⟨true, false, 0⟩, busy := false, waitLeft := 0 }

/-- The state `s` with the error response of cause `code` (spec/60_exceptions.md R133). -/
def State.withErrorResponse (s : State) (code : BitVec 2) : State :=
  { s with y0 := 0, y1 := 0, status := ⟨true, true, code⟩, busy := false, waitLeft := 0 }

/-- The block has been reset and no reset is driven: the rules of the spec apply to its next edge
(spec/70_reset_and_hazards.md R148, R152). -/
abbrev State.live (s : State) : Prop := s.sawReset = true ∧ s.ports.rst = false

/-- What a host sequence ends with, without the block it ends on. -/
def answerOf {α : Type} : Host.Outcome (State × α) Fault Refusal → Host.Outcome α Fault Refusal
  | .next (_, a) => .next a
  | .fault f => .fault f
  | .refused q => .refused q

/-! ## The operand bits an operation reads (spec/30_encoding.md R36) -/

/-- The low `k` bits of a field. -/
def lowBits (k : Nat) : Word64 := BitVec.ofNat 64 (2 ^ k - 1)

/-- The bits of `X[0]` to `X[5]` an operation reads; tail bytes at and above `rem` are not read
(spec/44_m3mix.md R71, R75, R79). -/
def readBits : Instr → List Word64
  | .hmix32 => [lowBits 32, lowBits 32, 0, 0, 0, 0]
  | .hmix64S | .hmix64K0 | .hmix64K1 | .hmix64K2 | .hmix64K3 | .hmix64Kmul => [lowBits 64, 0, 0, 0, 0, 0]
  | .hl16 => [lowBits 64, lowBits 64, 0, 0, 0, 0]
  | .wh32 => [lowBits 64, lowBits 64, lowBits 64, lowBits 64, lowBits 64, lowBits 64]
  | .m3X32B => [lowBits 32, 0, lowBits 32, 0, 0, 0]
  | .m3X32T rem => [lowBits 32, 0, lowBits (8 * rem.toNat), 0, 0, 0]
  | .m3X86B | .m3X64B => [lowBits 64, lowBits 64, lowBits 64, lowBits 64, 0, 0]
  | .m3X86T rem | .m3X64T rem =>
    [lowBits 64, lowBits 64, lowBits (min 64 (8 * rem.toNat)), lowBits (8 * rem.toNat - 64), 0, 0]
  | .fmix32 => [lowBits 32, 0, 0, 0, 0, 0]
  | .fmix64 => [lowBits 64, 0, 0, 0, 0, 0]
  | .ldmuxC32 | .ldmuxC64 | .ldmuxC128S | .ldmuxCMur | .ldmuxC128U | .ldmuxM32 | .ldmuxM86 | .ldmuxM64 =>
    [lowBits 64, 0, 0, 0, 0, 0]

/-- The operand fields of a request, in order. -/
def operandFields (r : Request) : List Word64 := [r.x0, r.x1, r.x2, r.x3, r.x4, r.x5]

/-- What an operation sees of a request: its operand fields, every bit it does not read cleared. -/
def seenBy (i : Instr) (r : Request) : List Word64 := List.zipWith (· &&& ·) (operandFields r) (readBits i)

/-! ## The tail as the source tells it (spec/44_m3mix.md R80) -/

/-- Tail byte `t[i]` of a request of unit 4: byte `i` of `{X[3], X[2]}`. -/
def tailByte (r : Request) (i : Nat) : Byte := (r.x3 ++ r.x2 : BitVec 128).extractLsb' (8 * i) 8

/-- The reverse loop over the count `c` of bytes not yet consumed, for lanes of `L` bytes: `k` are the partial words,
`h` the lanes, both by lane index. -/
def reverseTail {w : Nat} (L : Nat) (mix : Nat → BitVec w → BitVec w) (t : Nat → Byte) :
    Nat → (Nat → BitVec w) → (Nat → BitVec w) → Nat → BitVec w
  | 0, _, h => h
  | c + 1, k, h =>
    let j := c / L
    let k' := Function.update k j (k j ^^^ ((t c).setWidth w <<< (8 * (c % L))))
    let h' := if c % L = 0 then Function.update h j (h j ^^^ mix j (k' j)) else h
    reverseTail L mix t c k' h'

/-- The lane mixes of the X86 variant by lane index from 0 (spec/44_m3mix.md R72). -/
def laneMixX86 : Nat → Word32 → Word32
  | 0 => km1
  | 1 => km2
  | 2 => km3
  | _ => km4

/-- The lane mixes of the X64 variant by lane index from 0 (spec/44_m3mix.md R76). -/
def laneMixX64 : Nat → Word64 → Word64
  | 0 => qm1
  | _ => qm2

/-- The four lanes of the X86 variant by index from 0 (spec/44_m3mix.md R69). -/
def lanesX86 (r : Request) : Nat → Word32
  | 0 => r.x0.extractLsb' 0 32
  | 1 => r.x0.extractLsb' 32 32
  | 2 => r.x1.extractLsb' 0 32
  | _ => r.x1.extractLsb' 32 32

/-- The two lanes of the X64 variant by index from 0 (spec/44_m3mix.md R69). -/
def lanesX64 (r : Request) : Nat → Word64
  | 0 => r.x0
  | _ => r.x1

/-! ## The host's duties (spec/70_reset_and_hazards.md R150) -/

/-- H1: a request presented to a block that is not ready is held, all its fields stable, at the next edge. -/
abbrev dutyH1 (s : State) (next : Ports) : Prop :=
  s.ports.reqValid = true → s.reqReady = false → next.reqValid = true ∧ next.req = s.ports.req

/-- H2: the response is read only while `resp_valid = 1`. -/
abbrev dutyH2 (s : State) : Prop := s.status.valid = true

/-- H3: a request is presented only once the response that stands has been read. -/
abbrev dutyH3 (s : State) (responseRead : Bool) : Prop :=
  s.ports.reqValid = true → s.status.valid = true → responseRead = true

/-- H4: `y0` and `y1` are used only when `resp_err = 0`. -/
abbrev dutyH4 (a : Response) : Prop := a.err = false

/-- H5: a fetch of `width` bytes at `off` stays inside the input (spec/20_memory.md R28). -/
abbrev dutyH5 (B : List Byte) (off width : Nat) : Prop := off + width ≤ B.length

end Sys2Proof.Machine
end

