-- ==== Sys2Proof/Certificates/Slice0/Obligations.lean ====
section
/-!
DEFINITION. The statements about the block, for the provers. Each docstring names the rule of spec/ it formalises, or
says on what it rests where it is the model's.
-/

open Sys2Proof Sys2Proof.Machine

/-! ## The command word -/

/-- UNIT, MODE, REM and RSV are bits 3:0, 7:4, 11:8 and 31:12 of the command word (spec/30_encoding.md section 1). -/
def Obligations.CommandWordFields : Prop :=
  ∀ c : Word32,
    (unitField c).toNat = c.toNat % 16 ∧ (modeField c).toNat = c.toNat / 16 % 16 ∧
    (remField c).toNat = c.toNat / 256 % 16 ∧ (rsvField c).toNat = c.toNat / 4096 ∧
    commandWord (rsvField c) (remField c) (modeField c) (unitField c) = c

/-- Decoding the word of a well-formed operation gives it back, for every value of its REM (spec/30_encoding.md
section 3). -/
def Obligations.DecodeOfEncode : Prop :=
  ∀ i : Instr, i.wellFormed = true → decode (encode i) = .ok i

/-- The decoder and the encoder agree on all 2^32 words: a word decodes to `i` exactly when `i` is well formed and the
word is its encoding. No bit of a command word is dropped (spec/30_encoding.md sections 3 and 4). -/
def Obligations.DecodeIffEncode : Prop :=
  ∀ (c : Word32) (i : Instr), decode c = .ok i ↔ (i.wellFormed = true ∧ encode i = c)

/-- The complete list of illegal command words, each with its cause, the first that applies (spec/30_encoding.md R43);
every other word is one of the operations. -/
def Obligations.IllegalWordCauses : Prop :=
  ∀ c : Word32,
    let unit := c.toNat % 16
    let mode := c.toNat / 16 % 16
    let rem := c.toNat / 256 % 16
    let rsv := c.toNat / 4096
    let nmodes : Nat := [1, 6, 1, 1, 6, 1, 1, 8].getD unit 0
    let tail : Prop := unit = 4 ∧ (mode = 1 ∨ mode = 3 ∨ mode = 5)
    let badField : Prop := rsv ≠ 0 ∨ (¬tail ∧ rem ≠ 0) ∨ (unit = 4 ∧ mode = 1 ∧ 4 ≤ rem)
    (decode c = .error .illegalUnit ↔ 8 ≤ unit) ∧
    (decode c = .error .illegalMode ↔ unit ≤ 7 ∧ nmodes ≤ mode) ∧
    (decode c = .error .illegalField ↔ unit ≤ 7 ∧ mode < nmodes ∧ badField) ∧
    ((∃ i, decode c = .ok i) ↔ unit ≤ 7 ∧ mode < nmodes ∧ ¬badField)

/-- The rows of the machine-readable table: a word selects a row exactly when it decodes to an operation of the row's
mnemonic, so a word that matches no row is illegal and no word matches two (spec/30_encoding.md section 6, which the
spec derives from R39 and R43). -/
def Obligations.OpcodeTableSelects : Prop :=
  (∀ c : Word32, ∀ row ∈ opcodeTable, row.selects c = true ↔ ∃ i, decode c = .ok i ∧ i.mnemonic = row.mnemonic) ∧
  (∀ c : Word32, (opcodeTable.filter (fun row => row.selects c)).length = if (decode c).isOk then 1 else 0)

/-- Of the 4096 command words with RSV = 0 exactly 58 are legal (spec/95_test_vectors.md section 2.11, count check). -/
def Obligations.LegalWordCount : Prop :=
  (List.range 4096).countP (fun n => (decode (BitVec.ofNat 32 n)).isOk) = 58

/-- Words written out from the opcode map decode to the operation they stand for, one of every unit
(spec/30_encoding.md R39, the `CMD` column). -/
def Obligations.SampleWordsDecode : Prop :=
  decode 0x00000000 = .ok .hmix32 ∧ decode 0x00000051 = .ok .hmix64Kmul ∧ decode 0x00000002 = .ok .hl16 ∧
  decode 0x00000003 = .ok .wh32 ∧ decode 0x00000314 = .ok (.m3X32T 3) ∧ decode 0x00000f34 = .ok (.m3X86T 15) ∧
  decode 0x00000f54 = .ok (.m3X64T 15) ∧ decode 0x00000005 = .ok .fmix32 ∧ decode 0x00000006 = .ok .fmix64 ∧
  decode 0x00000047 = .ok .ldmuxC128U ∧ decode 0x00000077 = .ok .ldmuxM64

/-- An operation's response depends on no operand bit but those it reads: ignored fields, upper halves of `u32`
operands and tail bytes at and above REM may hold anything, on blocks built alike (the fields: spec/30_encoding.md section 1; REM: section 2;
spec/93_implementation_defined.md U8). -/
def Obligations.OperandBitsIgnored : Prop :=
  ∀ (i : Instr) (s t s' t' : State), s.params = t.params → seenBy i s.captured = seenBy i t.captured →
    exec i s = .next s' → exec i t = .next t' → s'.response = t'.response

/-! ## Clock edges, the three events, reset -/

/-- A step runs the decoded instruction: on the completing edge of a block that has been reset, the step is the meaning
of the captured command word's operation, and nothing is added around it (spec/10_state.md section 2, `complete`). -/
def Obligations.StepRunsDecoded : Prop :=
  ∀ (s : State) (i : Instr), s.live → s.busy = true → s.waitLeft = 0 → decode s.captured.cmd = .ok i →
    step s = exec i s

/-- A word placed by `withFetchWord` is run by the very next step (the model's own interface, log 7). -/
def Obligations.PlacedWordRuns : Prop :=
  ∀ (s : State) (w : Nat) (i : Instr), w < 2 ^ 32 → decodeTableWord 32 w = some i →
    step (s.withFetchWord 32 w) = exec i (s.withFetchWord 32 w)

/-- The error response (spec/60_exceptions.md R133): an illegal command completes with `Y = 0`, `ERR = 1` and its cause
in `CODE`; nothing else changes; the block is then in DONE and ready, and the next request presented is accepted. -/
def Obligations.IllegalCommandResponse : Prop :=
  ∀ (s : State) (c : IllegalCause), s.live → s.busy = true → s.waitLeft = 0 → decode s.captured.cmd = .error c →
    let code : BitVec 2 := match c with | .illegalUnit => 1 | .illegalMode => 2 | .illegalField => 3
    let t : State := { s with y0 := 0, y1 := 0, status := ⟨true, true, code⟩, busy := false, waitLeft := 0 }
    step s = .next t ∧ t.phase = some .done ∧ t.reqReady = true ∧
    ∀ q : Request, ∃ u, step (t.drive ⟨false, true, q⟩) = .next u ∧ u.busy = true ∧ u.captured = q

/-- Acceptance (spec/70_reset_and_hazards.md R147): exactly on an edge with `req_valid = 1`, `req_ready = 1` and
`rst = 0`, all seven fields are sampled, BUSY is set and VALID cleared. -/
def Obligations.AcceptanceEdge : Prop :=
  (∀ s : State, s.live → s.ports.reqValid = true → s.reqReady = true →
    ∃ t, step s = .next t ∧ t.captured = s.ports.req ∧ t.busy = true ∧ t.status.valid = false ∧
      t.ports = s.ports ∧ t.sawReset = true) ∧
  (∀ s t : State, step s = .next t → s.busy = false → t.busy = true →
    s.ports.reqValid = true ∧ s.ports.rst = false)

/-- While an operation is in flight `req_ready = 0` and no request on the ports is captured, looked at or remembered:
the edge is the same whatever the host presents (spec/70_reset_and_hazards.md section 1, `req_ready` and `BUSY`). -/
def Obligations.BusyLooksAtNoRequest : Prop :=
  ∀ (s t : State) (v : Bool) (q : Request), s.live → s.busy = true → step s = .next t →
    s.reqReady = false ∧ step (s.drive ⟨false, v, q⟩) = .next (t.drive ⟨false, v, q⟩)

/-- Reset (spec/70_reset_and_hazards.md R148): an edge with `rst = 1` leads every state to EMPTY, whatever was
presented or due; no result can then be read; and at the first edge with `rst = 0` a request is accepted. -/
def Obligations.ResetEdge : Prop :=
  ∀ s : State, s.ports.rst = true →
    ∃ t, step s = .next t ∧ t.busy = false ∧ t.status = ⟨false, false, 0⟩ ∧ t.ports = s.ports ∧
      t.phase = some .empty ∧ t.reqReady = true ∧ t.readResponse = .refused .responseNotValid ∧
      ∀ q : Request, ∃ u, step (t.drive ⟨false, true, q⟩) = .next u ∧ u.busy = true ∧ u.captured = q

/-- The reset values the spec gives, and that the result registers, to which it gives none, cannot be read
(spec/10_state.md R23). -/
def Obligations.ResetValues : Prop :=
  State.reset.status.valid = false ∧ State.reset.status.err = false ∧ State.reset.status.code = 0 ∧
  State.reset.busy = false ∧ State.reset.readResponse = .refused .responseNotValid

/-- In DONE the response stays readable, unchanged, for any number of edges at which no request is presented and no
reset occurs; an EMPTY block stays EMPTY (spec/10_state.md section 4). -/
def Obligations.ReadyBlockIdles : Prop :=
  ∀ (k : Nat) (s : State), s.live → s.busy = false → s.ports.reqValid = false → runEdges k s = .next s

/-- Until `rst` has been 1 on a clock edge since power was applied, an edge with `rst = 0`, a transaction and a read of
the output ports are refused, whatever response stood there before power was removed, and an edge with `rst = 1` makes
the block ready (spec/70_reset_and_hazards.md section 3, spec/60_exceptions.md section 4; the refusals are log 8's
reading of spec/93_implementation_defined.md U5). -/
def Obligations.NothingBeforeFirstReset : Prop :=
  ∀ s : State,
    (s.ports.rst = false → step s.powerCycle = .refused .beforeFirstReset) ∧
    (∀ r : Request, transact r s.powerCycle = .refused .beforeFirstReset) ∧
    s.powerCycle.readResponse = .refused .beforeFirstReset ∧ s.powerCycle.readReady = .refused .beforeFirstReset ∧
    (s.ports.rst = true → ∃ t, step s.powerCycle = .next t ∧ t.sawReset = true ∧ t.phase = some .empty)

/-- Of a block that has been reset, a host that reads the response while `VALID = 0` is refused, and one that reads it
while `VALID = 1` gets what stands on the ports (spec/10_state.md section 6; spec/60_exceptions.md section 2, faults of
the host). -/
def Obligations.ReadNeedsValid : Prop :=
  ∀ s : State, s.sawReset = true →
    (s.status.valid = false → s.readResponse = .refused .responseNotValid) ∧
    (s.status.valid = true → s.readResponse = .next ⟨s.y0, s.y1, s.status.err, s.status.code⟩)

/-- An operation in flight waits out its latency and then completes; nothing but a reset can keep it from that, and its
response can then be read (spec/70_reset_and_hazards.md section 5: completion is guaranteed). -/
def Obligations.CompletionGuaranteed : Prop :=
  ∀ s : State, s.live → s.busy = true →
    (∀ k, k ≤ s.waitLeft → runEdges k s = .next { s with waitLeft := s.waitLeft - k }) ∧
    ∃ t a, runEdges (s.waitLeft + 1) s = .next t ∧ t.busy = false ∧ t.readResponse = .next a

/-- A reset during an operation abandons it: with `rst` held at 1 no number of edges completes it, and once reset the
block answers a request as if the abandoned one had never been (spec/70_reset_and_hazards.md section 2). The atomic
transaction stands for a host that drives `rst = 0` again, log 13. -/
def Obligations.ResetAbandonsOperation : Prop :=
  ∀ (s : State) (k : Nat) (r : Request), s.ports.rst = true →
    ∃ t, runEdges (k + 1) s = .next t ∧ t.phase = some .empty ∧
      ∀ u u' a, transact r t = .next u → transact r (State.resetWith s.params) = .next u' →
        u.readResponse = .next a → u'.readResponse = .next a

/-! ## Invariants -/

/-- The state after reset is in EMPTY and meets both invariants (spec/10_state.md sections 4 and 6). -/
def Obligations.ResetMeetsInvariants : Prop :=
  State.reset.phase = some .empty ∧ State.reset.phaseInv ∧ State.reset.responseInv

/-- Every edge keeps the block in a phase of R19, with the status of that phase: `BUSY = 1, VALID = 1` never occurs, an
error has a cause and the zeros of the error response (spec/10_state.md section 4, marked derived there). -/
def Obligations.PhaseInvariantKept : Prop :=
  ∀ s t : State, s.phaseInv → step s = .next t → t.phaseInv

/-- Every edge keeps this: a valid response is EXEC of the most recently accepted request (spec/10_state.md section 2,
the meaning of VALID, with section 4). -/
def Obligations.ResponseInvariantKept : Prop :=
  ∀ s t : State, s.responseInv → step s = .next t → t.responseInv

/-! ## The response as a function of the request -/

/-- History independence (spec/10_state.md section 2): to each request there is one response, and every block of one
build that has been reset gives it, whatever it did before and whatever its registers hold. That a block that is busy
completes the operation in flight first is the model's reading, log 13. -/
def Obligations.HistoryIndependence : Prop :=
  ∀ (p : Params) (r : Request), ∃ a, execResponse p r = some a ∧
    ∀ s : State, s.sawReset = true → s.params = p → ∃ t, transact r s = .next t ∧ t.readResponse = .next a

/-- Whether a request is legal, and the cause when it is not, depend on its command word alone; operands influence only
`Y[0]` and `Y[1]` (spec/70_reset_and_hazards.md section 5, marked derived there). -/
def Obligations.ControlDependsOnCommandOnly : Prop :=
  ∀ (p p' : Params) (r q : Request) (a b : Response), r.cmd = q.cmd →
    execResponse p r = some a → execResponse p' q = some b →
    a.err = b.err ∧ a.code = b.code

/-- No operand value can cause an error (spec/60_exceptions.md R130): every operation answers, from every state, with
`VALID = 1`, `ERR = 0`, `CODE = 0`, and changes nothing but `Y`, `STATUS` and `BUSY`. -/
def Obligations.NoOperandCausesError : Prop :=
  ∀ (i : Instr) (s : State), i.wellFormed = true → ∃ y0 y1, Answers i s y0 y1

/-- An error is not sticky: after any request, an illegal one among them, a legal one completes with `ERR = 0` and
`CODE = 0` (spec/60_exceptions.md section 1, what an error records). On a block that is busy the operation in flight
completes first, log 13. -/
def Obligations.ErrorsAreNotSticky : Prop :=
  ∀ (p r : Request) (i : Instr) (s : State), s.sawReset = true → decode r.cmd = .ok i →
    ∃ t u, transact p s = .next t ∧ transact r t = .next u ∧ u.status = ⟨true, false, 0⟩

/-- What the atomic model hides (spec/70_reset_and_hazards.md section 4, marked derived there): a transaction played on
the ports, edge by edge and for whatever latency (log 5), ends in the state of the atomic transaction (log 13), and
until then the block is not ready and no response can be read. -/
def Obligations.EdgesRefineAtomic : Prop :=
  ∀ (r : Request) (s : State), s.sawReset = true → s.busy = false →
    ∃ t, transact r s = .next t ∧ transactEdges r s = .next (t.drive (released r)) ∧
      ∃ u, step (s.drive (presenting r)) = .next u ∧
        ∀ (k : Nat) (v : State), k ≤ u.waitLeft → runEdges k (u.drive (released r)) = .next v →
          v.reqReady = false ∧ v.readResponse = .refused .responseNotValid

/-- Several blocks share nothing: an edge of one leaves every other as it was (spec/60_exceptions.md section 4,
several blocks). -/
def Obligations.InstancesShareNothing : Prop :=
  ∀ (blocks after : List State) (k j : Nat), stepInstance blocks k = .next after →
    after.length = blocks.length ∧ (j ≠ k → after[j]? = blocks[j]?) ∧
    (∀ s, blocks[k]? = some s → ∃ t, step s = .next t ∧ after[k]? = some t)

/-! ## The units -/

/-- HMIX32 (spec/40_hmix32.md R55), its rotates written out as R7 defines them. -/
def Obligations.Hmix32Result : Prop :=
  encode .hmix32 = 0x00000000 ∧
  ∀ s : State,
    let a : Word32 := s.captured.x0.extractLsb' 0 32
    let h : Word32 := s.captured.x1.extractLsb' 0 32
    let a1 := a * 0xcc9e2d51
    let a2 := (a1 >>> 17) ||| (a1 <<< 15)
    let a3 := a2 * 0x1b873593
    let h1 := h ^^^ a3
    let h2 := (h1 >>> 19) ||| (h1 <<< 13)
    Answers .hmix32 s ((h2 * 5 + 0xe6546b64).setWidth 64) 0

/-- HMIX64.S, .K0, .K1, .K2, .K3, .KMUL (spec/41_hmix64.md R58). -/
def Obligations.Hmix64Results : Prop :=
  encode .hmix64S = 0x00000001 ∧ encode .hmix64K0 = 0x00000011 ∧ encode .hmix64K1 = 0x00000021 ∧
  encode .hmix64K2 = 0x00000031 ∧ encode .hmix64K3 = 0x00000041 ∧ encode .hmix64Kmul = 0x00000051 ∧
  ∀ s : State,
    let v := s.captured.x0
    let sm := v ^^^ (v >>> 47)
    Answers .hmix64S s sm 0 ∧
    Answers .hmix64K0 s (sm * 0xc3a5c85c97cb3127) 0 ∧
    Answers .hmix64K1 s (sm * 0xb492b66fbe98f273) 0 ∧
    Answers .hmix64K2 s (sm * 0x9ae16a3b2f90404f) 0 ∧
    Answers .hmix64K3 s (sm * 0xc949d7c7509e6557) 0 ∧
    Answers .hmix64Kmul s (sm * 0x9ddfea08eb382d69) 0

/-- HL16 (spec/42_hl16.md R62). -/
def Obligations.Hl16Result : Prop :=
  encode .hl16 = 0x00000002 ∧
  ∀ s : State,
    let u := s.captured.x0
    let v := s.captured.x1
    let a := (u ^^^ v) * 0x9ddfea08eb382d69
    let a' := a ^^^ (a >>> 47)
    let b := (v ^^^ a') * 0x9ddfea08eb382d69
    let b' := b ^^^ (b >>> 47)
    Answers .hl16 s (b' * 0x9ddfea08eb382d69) 0

/-- WH32 (spec/43_wh32.md R65), its rotates written out as R7 defines them, for every block built with rotate amounts
strictly between 0 and 64: the amounts are named parameters, 21 and 44 by default. -/
def Obligations.Wh32Result : Prop :=
  encode .wh32 = 0x00000003 ∧
  ∀ s : State,
    let rot1 := s.params.whRot1
    let rot2 := s.params.whRot2
    0 < rot1 → rot1 < 64 → 0 < rot2 → rot2 < 64 →
    let rotr (v : Word64) (r : Nat) : Word64 := (v >>> r) ||| (v <<< (64 - r))
    let w := s.captured.x0
    let x := s.captured.x1
    let y := s.captured.x2
    let z := s.captured.x3
    let a := s.captured.x4
    let b := s.captured.x5
    let a1 := a + w
    let b1 := rotr (b + a1 + z) rot1
    let c := a1
    let a2 := a1 + x
    let a3 := a2 + y
    let b2 := b1 + rotr a3 rot2
    Answers .wh32 s (a3 + z) (b2 + c)

/-- M3.X32.B (spec/44_m3mix.md R70). -/
def Obligations.M3X32BResult : Prop :=
  encode .m3X32B = 0x00000004 ∧
  ∀ s : State,
    let h : Word32 := s.captured.x0.extractLsb' 0 32
    let k : Word32 := s.captured.x2.extractLsb' 0 32
    let k1 := k * 0xcc9e2d51
    let k2 := (k1 <<< 15) ||| (k1 >>> 17)
    let k3 := k2 * 0x1b873593
    let h1 := h ^^^ k3
    let h2 := (h1 <<< 13) ||| (h1 >>> 19)
    Answers .m3X32B s ((h2 * 5 + 0xe6546b64).setWidth 64) 0

/-- M3.X32.T (spec/44_m3mix.md R71): the tail word is the `rem` low bytes of `X[2]`, the bytes at and above `rem` read as
zero; a command word with `rem >= 4` is no operation but a field error. -/
def Obligations.M3X32TResult : Prop :=
  (∀ rem : BitVec 4, (encode (.m3X32T rem)).toNat = 0x14 + 256 * rem.toNat) ∧
  ∀ (s : State) (rem : BitVec 4),
    let h : Word32 := s.captured.x0.extractLsb' 0 32
    let k : Word32 := BitVec.ofNat 32 (s.captured.x2.toNat % 2 ^ (8 * rem.toNat))
    let k1 := k * 0xcc9e2d51
    let km := ((k1 <<< 15) ||| (k1 >>> 17)) * 0x1b873593
    (rem.toNat < 4 → Answers (.m3X32T rem) s ((h ^^^ km).setWidth 64) 0) ∧
    (4 ≤ rem.toNat → decode (encode (.m3X32T rem)) = .error .illegalField)

/-- The ill-formed term M3.X32.T with `rem >= 4`, which the decoder never gives, answers as its command word does: with
the error response of a field error. This is the model's choice (log 12), for the spec runs no operation there. -/
def Obligations.M3X32TIllFormedTerm : Prop :=
  ∀ (s : State) (rem : BitVec 4), 4 ≤ rem.toNat →
    exec (.m3X32T rem) s = .next (s.withErrorResponse 3) ∧
    (s.live → s.busy = true → s.waitLeft = 0 → s.captured.cmd = encode (.m3X32T rem) →
      step s = exec (.m3X32T rem) s)

/-- M3.X86.B (spec/44_m3mix.md R74, with the lane functions and constants of R72 and the order of R73). -/
def Obligations.M3X86BResult : Prop :=
  encode .m3X86B = 0x00000024 ∧
  ∀ s : State,
    let rotl (v : Word32) (r : Nat) : Word32 := (v <<< r) ||| (v >>> (32 - r))
    let h1 : Word32 := s.captured.x0.extractLsb' 0 32
    let h2 : Word32 := s.captured.x0.extractLsb' 32 32
    let h3 : Word32 := s.captured.x1.extractLsb' 0 32
    let h4 : Word32 := s.captured.x1.extractLsb' 32 32
    let k1 : Word32 := s.captured.x2.extractLsb' 0 32
    let k2 : Word32 := s.captured.x2.extractLsb' 32 32
    let k3 : Word32 := s.captured.x3.extractLsb' 0 32
    let k4 : Word32 := s.captured.x3.extractLsb' 32 32
    let h1' := (rotl (h1 ^^^ rotl (k1 * 0x239b961b) 15 * 0xab0e9789) 19 + h2) * 5 + 0x561ccd1b
    let h2' := (rotl (h2 ^^^ rotl (k2 * 0xab0e9789) 16 * 0x38b34ae5) 17 + h3) * 5 + 0x0bcaa747
    let h3' := (rotl (h3 ^^^ rotl (k3 * 0x38b34ae5) 17 * 0xa1e38b93) 15 + h4) * 5 + 0x96cd1c35
    let h4' := (rotl (h4 ^^^ rotl (k4 * 0xa1e38b93) 18 * 0x239b961b) 13 + h1') * 5 + 0x32ac3b17
    Answers .m3X86B s (h2' ++ h1' : BitVec 64) (h4' ++ h3' : BitVec 64)

/-- M3.X86.T (spec/44_m3mix.md R75): the 128-bit tail is the `rem` low bytes of `{X[3], X[2]}`. -/
def Obligations.M3X86TResult : Prop :=
  (∀ rem : BitVec 4, (encode (.m3X86T rem)).toNat = 0x34 + 256 * rem.toNat) ∧
  ∀ (s : State) (rem : BitVec 4),
    let rotl (v : Word32) (r : Nat) : Word32 := (v <<< r) ||| (v >>> (32 - r))
    let tail : Nat := (s.captured.x3.toNat * 2 ^ 64 + s.captured.x2.toNat) % 2 ^ (8 * rem.toNat)
    let k1 : Word32 := BitVec.ofNat 32 tail
    let k2 : Word32 := BitVec.ofNat 32 (tail / 2 ^ 32)
    let k3 : Word32 := BitVec.ofNat 32 (tail / 2 ^ 64)
    let k4 : Word32 := BitVec.ofNat 32 (tail / 2 ^ 96)
    let h1 : Word32 := s.captured.x0.extractLsb' 0 32 ^^^ rotl (k1 * 0x239b961b) 15 * 0xab0e9789
    let h2 : Word32 := s.captured.x0.extractLsb' 32 32 ^^^ rotl (k2 * 0xab0e9789) 16 * 0x38b34ae5
    let h3 : Word32 := s.captured.x1.extractLsb' 0 32 ^^^ rotl (k3 * 0x38b34ae5) 17 * 0xa1e38b93
    let h4 : Word32 := s.captured.x1.extractLsb' 32 32 ^^^ rotl (k4 * 0xa1e38b93) 18 * 0x239b961b
    Answers (.m3X86T rem) s (h2 ++ h1 : BitVec 64) (h4 ++ h3 : BitVec 64)

/-- M3.X64.B (spec/44_m3mix.md R78, with the lane functions of R76 and the order of R77). -/
def Obligations.M3X64BResult : Prop :=
  encode .m3X64B = 0x00000044 ∧
  ∀ s : State,
    let rotl (v : Word64) (r : Nat) : Word64 := (v <<< r) ||| (v >>> (64 - r))
    let h1 := s.captured.x0
    let h2 := s.captured.x1
    let k1 := s.captured.x2
    let k2 := s.captured.x3
    let h1' := (rotl (h1 ^^^ rotl (k1 * 0x87c37b91114253d5) 31 * 0x4cf5ad432745937f) 27 + h2) * 5 + 0x52dce729
    let h2' := (rotl (h2 ^^^ rotl (k2 * 0x4cf5ad432745937f) 33 * 0x87c37b91114253d5) 31 + h1') * 5 + 0x38495ab5
    Answers .m3X64B s h1' h2'

/-- M3.X64.T (spec/44_m3mix.md R79): the 128-bit tail is the `rem` low bytes of `{X[3], X[2]}`. -/
def Obligations.M3X64TResult : Prop :=
  (∀ rem : BitVec 4, (encode (.m3X64T rem)).toNat = 0x54 + 256 * rem.toNat) ∧
  ∀ (s : State) (rem : BitVec 4),
    let rotl (v : Word64) (r : Nat) : Word64 := (v <<< r) ||| (v >>> (64 - r))
    let tail : Nat := (s.captured.x3.toNat * 2 ^ 64 + s.captured.x2.toNat) % 2 ^ (8 * rem.toNat)
    let k1 : Word64 := BitVec.ofNat 64 tail
    let k2 : Word64 := BitVec.ofNat 64 (tail / 2 ^ 64)
    Answers (.m3X64T rem) s
      (s.captured.x0 ^^^ rotl (k1 * 0x87c37b91114253d5) 31 * 0x4cf5ad432745937f)
      (s.captured.x1 ^^^ rotl (k2 * 0x4cf5ad432745937f) 33 * 0x87c37b91114253d5)

/-- FMIX32 (spec/45_fmix.md R81). -/
def Obligations.Fmix32Result : Prop :=
  encode .fmix32 = 0x00000005 ∧
  ∀ s : State,
    let h : Word32 := s.captured.x0.extractLsb' 0 32
    let h1 := h ^^^ (h >>> 16)
    let h2 := h1 * 0x85ebca6b
    let h3 := h2 ^^^ (h2 >>> 13)
    let h4 := h3 * 0xc2b2ae35
    Answers .fmix32 s ((h4 ^^^ (h4 >>> 16)).setWidth 64) 0

/-- FMIX64 (spec/45_fmix.md R82). -/
def Obligations.Fmix64Result : Prop :=
  encode .fmix64 = 0x00000006 ∧
  ∀ s : State,
    let k := s.captured.x0
    let k1 := k ^^^ (k >>> 33)
    let k2 := k1 * 0xff51afd7ed558ccd
    let k3 := k2 ^^^ (k2 >>> 33)
    let k4 := k3 * 0xc4ceb9fe1a85ec53
    Answers .fmix64 s (k4 ^^^ (k4 >>> 33)) 0

/-- The five City length decisions, LDMUX.C32, .C64, .C128S, .CMUR, .C128U: the band of the length, as a number
(spec/46_ldmux.md R86 to R90, in the layout of R85). -/
def Obligations.LdmuxBandResults : Prop :=
  encode .ldmuxC32 = 0x00000007 ∧ encode .ldmuxC64 = 0x00000017 ∧ encode .ldmuxC128S = 0x00000027 ∧
  encode .ldmuxCMur = 0x00000037 ∧ encode .ldmuxC128U = 0x00000047 ∧
  ∀ s : State,
    let n := s.captured.x0.toNat
    Answers .ldmuxC32 s (BitVec.ofNat 64 (if n ≤ 4 then 0 else if n ≤ 12 then 1 else if n ≤ 24 then 2 else 3)) 0 ∧
    Answers .ldmuxC64 s (BitVec.ofNat 64 (if n ≤ 16 then 0 else if n ≤ 32 then 1 else if n ≤ 64 then 2 else 3)) 0 ∧
    Answers .ldmuxC128S s (BitVec.ofNat 64 (if n < 128 then 0 else 1)) 0 ∧
    Answers .ldmuxCMur s (BitVec.ofNat 64 (if n ≤ 16 then 0 else 1)) 0 ∧
    Answers .ldmuxC128U s (BitVec.ofNat 64 (if n < 8 then 0 else if n < 16 then 1 else 2)) 0

/-- The three Murmur3 length decisions, LDMUX.M32, .M86, .M64: the remainder in bits 3:0 and again in bits 11:8 of
`Y[0]`, the number of full blocks in `Y[1]` (spec/46_ldmux.md R91 to R93, in the layout of R85). -/
def Obligations.LdmuxBlockResults : Prop :=
  encode .ldmuxM32 = 0x00000057 ∧ encode .ldmuxM86 = 0x00000067 ∧ encode .ldmuxM64 = 0x00000077 ∧
  ∀ s : State,
    let n := s.captured.x0.toNat
    Answers .ldmuxM32 s (BitVec.ofNat 64 (n % 4 + 256 * (n % 4))) (BitVec.ofNat 64 (n / 4)) ∧
    Answers .ldmuxM86 s (BitVec.ofNat 64 (n % 16 + 256 * (n % 16))) (BitVec.ofNat 64 (n / 16)) ∧
    Answers .ldmuxM64 s (BitVec.ofNat 64 (n % 16 + 256 * (n % 16))) (BitVec.ofNat 64 (n / 16))

/-! ## Properties of the units -/

/-- HMIX32 computes the same function as M3.X32.B with `a` as the block word (spec/40_hmix32.md, the sentence
"HMIX32 computes the same function as M3.X32.B", marked derived there). -/
def Obligations.Hmix32EqualsM3X32B : Prop :=
  ∀ s t s' t' : State, lo32 s.captured.x0 = lo32 t.captured.x2 → lo32 s.captured.x1 = lo32 t.captured.x0 →
    exec .hmix32 s = .next s' → exec .m3X32B t = .next t' → s'.response = t'.response

/-- With `X[0] = 1` each HMIX64 operation returns its multiplier (spec/41_hmix64.md, "Reading a constant back", marked
derived there). -/
def Obligations.ConstantsReadBack : Prop :=
  ∀ s : State, s.captured.x0 = 1 →
    Answers .hmix64S s 1 0 ∧ Answers .hmix64K0 s 0xc3a5c85c97cb3127 0 ∧ Answers .hmix64K1 s 0xb492b66fbe98f273 0 ∧
    Answers .hmix64K2 s 0x9ae16a3b2f90404f 0 ∧ Answers .hmix64K3 s 0xc949d7c7509e6557 0 ∧
    Answers .hmix64Kmul s 0x9ddfea08eb382d69 0

/-- HMIX64.S is a bijection on `u64` (spec/41_hmix64.md, mode `.S`, marked derived there): every word is the answer to
exactly one operand. -/
def Obligations.ShiftMixBijective : Prop :=
  ∀ y : Word64, ∃! v : Word64, ∀ s : State, s.captured.x0 = v → Answers .hmix64S s y 0

/-- Both avalanches are bijections of their word, and 0 is the only operand that gives 0 (spec/45_fmix.md, "Both
avalanches are bijections", marked derived there). -/
def Obligations.AvalanchesBijective : Prop :=
  (∀ y : Word32, ∃! h : Word32, ∀ s : State, lo32 s.captured.x0 = h → Answers .fmix32 s (y.setWidth 64) 0) ∧
  (∀ y : Word64, ∃! k : Word64, ∀ s : State, s.captured.x0 = k → Answers .fmix64 s y 0) ∧
  (∀ s : State, Answers .fmix32 s 0 0 ↔ lo32 s.captured.x0 = 0) ∧
  (∀ s : State, Answers .fmix64 s 0 0 ↔ s.captured.x0 = 0)

/-- HL16 is two HMIX64 transactions with the host's exclusive-or and multiply between them (spec/42_hl16.md, corner
cases, marked derived there). -/
def Obligations.Hl16ByHmix64 : Prop :=
  ∀ (u v : Word64) (p q r p' q' r' : State),
    p.captured.x0 = (u ^^^ v) * kmul → exec .hmix64S p = .next p' →
    q.captured.x0 = (v ^^^ p'.y0) * kmul → exec .hmix64Kmul q = .next q' →
    r.captured.x0 = u → r.captured.x1 = v → exec .hl16 r = .next r' →
    r'.response = q'.response

/-- The three tail modes are the source's fallthrough dispatch: the reverse loop over the bytes, which finalizes each
lane once and never reads a byte at or above `rem`, gives their results (spec/44_m3mix.md section 5, marked derived
there). -/
def Obligations.TailIsReverseLoop : Prop :=
  ∀ (s : State) (rem : BitVec 4),
    let t := tailByte s.captured
    let x86 := reverseTail 4 laneMixX86 t rem.toNat (fun _ => 0) (lanesX86 s.captured)
    let x64 := reverseTail 8 laneMixX64 t rem.toNat (fun _ => 0) (lanesX64 s.captured)
    let x32 := reverseTail 4 (fun _ => kmX32) t rem.toNat (fun _ => 0) (lanesX86 s.captured)
    Answers (.m3X86T rem) s (x86 1 ++ x86 0 : BitVec 64) (x86 3 ++ x86 2 : BitVec 64) ∧
    Answers (.m3X64T rem) s (x64 0) (x64 1) ∧
    (rem.toNat < 4 → Answers (.m3X32T rem) s ((x32 0).setWidth 64) 0)

/-- A lane that receives no tail byte is unchanged: in the X86 tail lane `j` (from 0) when `rem <= 4 j`, in the X64 tail
when `rem <= 8 j`, in the X32 tail when `rem = 0` (spec/44_m3mix.md sections 2 to 4). -/
def Obligations.UntouchedLanesPass : Prop :=
  ∀ (s t : State) (rem : BitVec 4),
    (exec (.m3X86T rem) s = .next t →
      (rem.toNat = 0 → lo32 t.y0 = lo32 s.captured.x0) ∧ (rem.toNat ≤ 4 → hi32 t.y0 = hi32 s.captured.x0) ∧
      (rem.toNat ≤ 8 → lo32 t.y1 = lo32 s.captured.x1) ∧ (rem.toNat ≤ 12 → hi32 t.y1 = hi32 s.captured.x1)) ∧
    (exec (.m3X64T rem) s = .next t →
      (rem.toNat = 0 → t.y0 = s.captured.x0) ∧ (rem.toNat ≤ 8 → t.y1 = s.captured.x1)) ∧
    (exec (.m3X32T rem) s = .next t → rem.toNat = 0 → t.y0 = zext64 (lo32 s.captured.x0))

/-- The bands of the five City modes do not decrease with the length (spec/46_ldmux.md section 4, marked derived
there). -/
def Obligations.BandsMonotone : Prop :=
  ∀ (i : Instr) (s t s' t' : State),
    i ∈ [Instr.ldmuxC32, .ldmuxC64, .ldmuxC128S, .ldmuxCMur, .ldmuxC128U] →
    s.captured.x0.toNat ≤ t.captured.x0.toNat → exec i s = .next s' → exec i t = .next t' →
    s'.y0.toNat ≤ t'.y0.toNat

/-- For the Murmur3 modes the blocks and the tail together are the whole input, once, and every block lies inside it
(spec/46_ldmux.md section 4, marked derived there). -/
def Obligations.BlocksCoverInput : Prop :=
  ∀ (i : Instr) (L : Nat) (s t : State),
    (i, L) ∈ [(Instr.ldmuxM32, 4), (.ldmuxM86, 16), (.ldmuxM64, 16)] → exec i s = .next t →
    L * t.y1.toNat + t.y0.toNat % 16 = s.captured.x0.toNat ∧ t.y0.toNat % 16 < L ∧
    ∀ b, b < t.y1.toNat → L * b + L ≤ s.captured.x0.toNat

/-! ## The host's side -/

/-- The host's fetches stay inside the input and are little-endian at any offset; one that would not stay inside is a
fault (spec/20_memory.md R28). -/
def Obligations.FetchesStayInside : Prop :=
  ∀ (B : List Byte) (off : Nat),
    (off < B.length → fetchByte B off = .next (B.getD off 0)) ∧
    (B.length ≤ off → fetchByte B off = .fault .fetchOutOfRange) ∧
    (off + 4 ≤ B.length → ∃ v, fetch32 B off = .next v ∧
      v.toNat = ((List.range 4).map (fun j => (B.getD (off + j) 0).toNat * 2 ^ (8 * j))).sum) ∧
    (B.length < off + 4 → fetch32 B off = .fault .fetchOutOfRange) ∧
    (off + 8 ≤ B.length → ∃ v, fetch64 B off = .next v ∧
      v.toNat = ((List.range 8).map (fun j => (B.getD (off + j) 0).toNat * 2 ^ (8 * j))).sum) ∧
    (B.length < off + 8 → fetch64 B off = .fault .fetchOutOfRange)

/-- The tail command word a host forms from an LDMUX result with one OR decodes to the tail operation with that
remainder (spec/46_ldmux.md section 1). -/
def Obligations.TailCommandFromLdmux : Prop :=
  ∀ s t : State,
    (exec .ldmuxM32 s = .next t →
      decode (tailCommand (.m3X32T 0) t.y0) = .ok (.m3X32T (BitVec.ofNat 4 (s.captured.x0.toNat % 4)))) ∧
    (exec .ldmuxM86 s = .next t →
      decode (tailCommand (.m3X86T 0) t.y0) = .ok (.m3X86T (BitVec.ofNat 4 (s.captured.x0.toNat % 16)))) ∧
    (exec .ldmuxM64 s = .next t →
      decode (tailCommand (.m3X64T 0) t.y0) = .ok (.m3X64T (BitVec.ofNat 4 (s.captured.x0.toNat % 16))))

/-- The host's Murmur3 sequences never fail and are pure: for every input and seed there is one digest, and on every
block that has been reset the sequence ends with it, with no fetch out of range and no error response
(spec/47_composition.md section 6, marked derived there; input lengths that fit the 64 bits of `n`, log 17; on a block
that is busy the operation in flight completes first, log 13). -/
def Obligations.MurmurSequencesArePure : Prop :=
  ∀ (B : List Byte) (seed : Word32), B.length < 2 ^ 64 →
    (∃ d, ∀ s : State, s.sawReset = true → ∃ t, murmur3Hash32 B seed s = .next (t, d) ∧
      t.phase = some .done ∧ t.status.err = false) ∧
    (∃ d, ∀ s : State, s.sawReset = true → ∃ t, murmur3Hash128 B seed s = .next (t, d) ∧
      t.phase = some .done ∧ t.status.err = false) ∧
    (∃ d, ∀ s : State, s.sawReset = true → ∃ t, murmur3Hash128X64 B seed s = .next (t, d) ∧
      t.phase = some .done ∧ t.status.err = false)

/-- The Murmur3 digests of the empty input with seed 0 are 0 (spec/47_composition.md section 2, empty input, marked
derived there). On a block that is busy the operation in flight completes first, log 13. -/
def Obligations.EmptyInputDigests : Prop :=
  ∀ s : State, s.sawReset = true →
    (∃ t, murmur3Hash32 [] 0 s = .next (t, 0)) ∧ (∃ t, murmur3Hash128 [] 0 s = .next (t, 0)) ∧
    (∃ t, murmur3Hash128X64 [] 0 s = .next (t, 0))

/-- The host's City sequences are pure: whatever revision of the family and whatever use of a nonzero 32-bit seed they
are given, what they end with (a digest, a fault or a refusal) is the same on every block of one build that has been
reset (spec/47_composition.md section 6, marked derived there; the two open parameters: log 15; on a block that is busy the
operation in flight completes first, log 13). -/
def Obligations.CitySequencesArePure : Prop :=
  ∀ (rev : CityRev) (seedUse : CitySeedUse32) (B : List Byte) (s t : State),
    s.sawReset = true → t.sawReset = true → s.params = t.params →
    (∀ seed, answerOf (cityHash32 rev seedUse B seed s) = answerOf (cityHash32 rev seedUse B seed t)) ∧
    answerOf (cityHash64 rev B s) = answerOf (cityHash64 rev B t) ∧
    (∀ seed0 seed1,
      answerOf (cityHash64WithSeeds rev B seed0 seed1 s) = answerOf (cityHash64WithSeeds rev B seed0 seed1 t)) ∧
    (∀ sa sb, answerOf (cityHash128WithSeed rev B sa sb s) = answerOf (cityHash128WithSeed rev B sa sb t)) ∧
    answerOf (cityHash128 rev B s) = answerOf (cityHash128 rev B t)

/-- A half-step of the City chunk loops on a chunk inside the input completes on every block that has been reset: the
new `v` is the response of one WH32 on the first 32 bytes of the chunk, the new `w` that of one on the second 32 bytes,
`y` is the mixed one, and `x` and `z` are the mixed ones swapped (spec/43_wh32.md, how the source uses the unit;
spec/47_composition.md section 4). Mixing and seed words are whatever the revision gives (log 15), and on a block
that is busy the operation in flight completes first (log 13). -/
def Obligations.HalfStepRecomputesPairs : Prop :=
  ∀ (loop : CityLoop) (B : List Byte) (i off : Nat) (c : CityChunk) (s : State),
    s.sawReset = true → off + 64 ≤ B.length →
    let word (j : Nat) : Word64 :=
      BitVec.ofNat 64 (((List.range 8).map (fun k => (B.getD (off + 8 * j + k) 0).toNat * 2 ^ (8 * k))).sum)
    let words : ChunkWords := ⟨word 1, word 2, word 5, word 6⟩
    let xyz := loop.mix B.length i c words
    let c1 : CityChunk := { c with x := xyz.1, y := xyz.2.1, z := xyz.2.2 }
    let p := loop.vSeeds B.length i c c1 words
    ∃ t d, cityHalfStep loop B i off c s = .next (t, d) ∧ d.y = xyz.2.1 ∧ d.x = xyz.2.2 ∧ d.z = xyz.1 ∧
      execResponse s.params (opRequest .wh32 (word 0) (word 1) (word 2) (word 3) p.1 p.2) =
        some ⟨d.v0, d.v1, false, 0⟩ ∧
      let q := loop.wSeeds B.length i c { c1 with v0 := d.v0, v1 := d.v1 } words
      execResponse s.params (opRequest .wh32 (word 4) (word 5) (word 6) (word 7) q.1 q.2) =
        some ⟨d.w0, d.w1, false, 0⟩

/-- What a block was built with never changes: not by an edge, a transaction or a loss of power; and the state after
reset is that of a block built with the default rotate amounts, 21 and 44 (spec/00_scope.md section 3; that the
parameters stand in State, and these in the state after reset, is the model's choice, log 25; a transaction on a block
that is busy completes the operation in flight first, log 13). -/
def Obligations.BuildNeverChanges : Prop :=
  State.reset.params.whRot1 = 21 ∧ State.reset.params.whRot2 = 44 ∧
  (∀ s t : State, step s = .next t → t.params = s.params) ∧
  (∀ (r : Request) (s t : State), transact r s = .next t → t.params = s.params) ∧
  (∀ s : State, s.powerCycle.params = s.params)
end

