-- ==== Sys2Proof/Laws/State.lean ====
section
/-!
SUPPORT. One lemma per field per update of State, so that no proof unfolds a record update.
-/

namespace Sys2Proof.Machine

/-! ## State.respond -/

@[simp] theorem State.respond_y0 (s : State) (y0 y1 : Word64) : (s.respond y0 y1).y0 = y0 := rfl
@[simp] theorem State.respond_y1 (s : State) (y0 y1 : Word64) : (s.respond y0 y1).y1 = y1 := rfl
@[simp] theorem State.respond_status (s : State) (y0 y1 : Word64) : (s.respond y0 y1).status = statusOk := rfl
@[simp] theorem State.respond_busy (s : State) (y0 y1 : Word64) : (s.respond y0 y1).busy = false := rfl
@[simp] theorem State.respond_captured (s : State) (y0 y1 : Word64) : (s.respond y0 y1).captured = s.captured := rfl
@[simp] theorem State.respond_params (s : State) (y0 y1 : Word64) : (s.respond y0 y1).params = s.params := rfl
@[simp] theorem State.respond_ports (s : State) (y0 y1 : Word64) : (s.respond y0 y1).ports = s.ports := rfl
@[simp] theorem State.respond_sawReset (s : State) (y0 y1 : Word64) : (s.respond y0 y1).sawReset = s.sawReset := rfl
@[simp] theorem State.respond_waitLeft (s : State) (y0 y1 : Word64) : (s.respond y0 y1).waitLeft = 0 := rfl
@[simp] theorem State.respond_unspec (s : State) (y0 y1 : Word64) : (s.respond y0 y1).unspec = s.unspec := rfl

/-! ## State.takeIllegal -/

@[simp] theorem State.takeIllegal_y0 (s : State) (c : IllegalCause) : (s.takeIllegal c).y0 = 0 := rfl
@[simp] theorem State.takeIllegal_y1 (s : State) (c : IllegalCause) : (s.takeIllegal c).y1 = 0 := rfl
@[simp] theorem State.takeIllegal_status (s : State) (c : IllegalCause) : (s.takeIllegal c).status = statusIllegal c := rfl
@[simp] theorem State.takeIllegal_busy (s : State) (c : IllegalCause) : (s.takeIllegal c).busy = false := rfl
@[simp] theorem State.takeIllegal_captured (s : State) (c : IllegalCause) : (s.takeIllegal c).captured = s.captured := rfl
@[simp] theorem State.takeIllegal_params (s : State) (c : IllegalCause) : (s.takeIllegal c).params = s.params := rfl
@[simp] theorem State.takeIllegal_ports (s : State) (c : IllegalCause) : (s.takeIllegal c).ports = s.ports := rfl
@[simp] theorem State.takeIllegal_sawReset (s : State) (c : IllegalCause) : (s.takeIllegal c).sawReset = s.sawReset := rfl
@[simp] theorem State.takeIllegal_waitLeft (s : State) (c : IllegalCause) : (s.takeIllegal c).waitLeft = 0 := rfl
@[simp] theorem State.takeIllegal_unspec (s : State) (c : IllegalCause) : (s.takeIllegal c).unspec = s.unspec := rfl

/-! ## State.accept -/

@[simp] theorem State.accept_y0 (s : State) (r : Request) : (s.accept r).y0 = Config.freeY0 s.unspec := rfl
@[simp] theorem State.accept_y1 (s : State) (r : Request) : (s.accept r).y1 = Config.freeY1 s.unspec := rfl
@[simp] theorem State.accept_status (s : State) (r : Request) : (s.accept r).status = ⟨false, Config.freeErr s.unspec, Config.freeCode s.unspec⟩ := rfl
@[simp] theorem State.accept_busy (s : State) (r : Request) : (s.accept r).busy = true := rfl
@[simp] theorem State.accept_captured (s : State) (r : Request) : (s.accept r).captured = r := rfl
@[simp] theorem State.accept_params (s : State) (r : Request) : (s.accept r).params = s.params := rfl
@[simp] theorem State.accept_ports (s : State) (r : Request) : (s.accept r).ports = s.ports := rfl
@[simp] theorem State.accept_sawReset (s : State) (r : Request) : (s.accept r).sawReset = s.sawReset := rfl
@[simp] theorem State.accept_waitLeft (s : State) (r : Request) : (s.accept r).waitLeft = Config.extraEdges r.cmd s.unspec := rfl
@[simp] theorem State.accept_unspec (s : State) (r : Request) : (s.accept r).unspec = s.unspec + 1 := rfl

/-! ## State.waitEdge -/

@[simp] theorem State.waitEdge_y0 (s : State) : (s.waitEdge).y0 = s.y0 := rfl
@[simp] theorem State.waitEdge_y1 (s : State) : (s.waitEdge).y1 = s.y1 := rfl
@[simp] theorem State.waitEdge_status (s : State) : (s.waitEdge).status = s.status := rfl
@[simp] theorem State.waitEdge_busy (s : State) : (s.waitEdge).busy = s.busy := rfl
@[simp] theorem State.waitEdge_captured (s : State) : (s.waitEdge).captured = s.captured := rfl
@[simp] theorem State.waitEdge_params (s : State) : (s.waitEdge).params = s.params := rfl
@[simp] theorem State.waitEdge_ports (s : State) : (s.waitEdge).ports = s.ports := rfl
@[simp] theorem State.waitEdge_sawReset (s : State) : (s.waitEdge).sawReset = s.sawReset := rfl
@[simp] theorem State.waitEdge_waitLeft (s : State) : (s.waitEdge).waitLeft = s.waitLeft - 1 := rfl
@[simp] theorem State.waitEdge_unspec (s : State) : (s.waitEdge).unspec = s.unspec := rfl

/-! ## State.resetEdge -/

@[simp] theorem State.resetEdge_y0 (s : State) : (s.resetEdge).y0 = Config.freeY0 s.unspec := rfl
@[simp] theorem State.resetEdge_y1 (s : State) : (s.resetEdge).y1 = Config.freeY1 s.unspec := rfl
@[simp] theorem State.resetEdge_status (s : State) : (s.resetEdge).status = statusReset := rfl
@[simp] theorem State.resetEdge_busy (s : State) : (s.resetEdge).busy = false := rfl
@[simp] theorem State.resetEdge_captured (s : State) : (s.resetEdge).captured = freeRequest s.unspec := rfl
@[simp] theorem State.resetEdge_params (s : State) : (s.resetEdge).params = s.params := rfl
@[simp] theorem State.resetEdge_ports (s : State) : (s.resetEdge).ports = s.ports := rfl
@[simp] theorem State.resetEdge_sawReset (s : State) : (s.resetEdge).sawReset = true := rfl
@[simp] theorem State.resetEdge_waitLeft (s : State) : (s.resetEdge).waitLeft = 0 := rfl
@[simp] theorem State.resetEdge_unspec (s : State) : (s.resetEdge).unspec = s.unspec + 1 := rfl

/-! ## State.powerCycle -/

@[simp] theorem State.powerCycle_y0 (s : State) : (s.powerCycle).y0 = Config.freeY0 s.unspec := rfl
@[simp] theorem State.powerCycle_y1 (s : State) : (s.powerCycle).y1 = Config.freeY1 s.unspec := rfl
@[simp] theorem State.powerCycle_status (s : State) : (s.powerCycle).status = ⟨Config.freeValid s.unspec, Config.freeErr s.unspec, Config.freeCode s.unspec⟩ := rfl
@[simp] theorem State.powerCycle_busy (s : State) : (s.powerCycle).busy = Config.freeBusy s.unspec := rfl
@[simp] theorem State.powerCycle_captured (s : State) : (s.powerCycle).captured = freeRequest s.unspec := rfl
@[simp] theorem State.powerCycle_params (s : State) : (s.powerCycle).params = s.params := rfl
@[simp] theorem State.powerCycle_ports (s : State) : (s.powerCycle).ports = s.ports := rfl
@[simp] theorem State.powerCycle_sawReset (s : State) : (s.powerCycle).sawReset = false := rfl
@[simp] theorem State.powerCycle_waitLeft (s : State) : (s.powerCycle).waitLeft = 0 := rfl
@[simp] theorem State.powerCycle_unspec (s : State) : (s.powerCycle).unspec = s.unspec + 1 := rfl

/-! ## State.drive -/

@[simp] theorem State.drive_y0 (s : State) (p : Ports) : (s.drive p).y0 = s.y0 := rfl
@[simp] theorem State.drive_y1 (s : State) (p : Ports) : (s.drive p).y1 = s.y1 := rfl
@[simp] theorem State.drive_status (s : State) (p : Ports) : (s.drive p).status = s.status := rfl
@[simp] theorem State.drive_busy (s : State) (p : Ports) : (s.drive p).busy = s.busy := rfl
@[simp] theorem State.drive_captured (s : State) (p : Ports) : (s.drive p).captured = s.captured := rfl
@[simp] theorem State.drive_params (s : State) (p : Ports) : (s.drive p).params = s.params := rfl
@[simp] theorem State.drive_ports (s : State) (p : Ports) : (s.drive p).ports = p := rfl
@[simp] theorem State.drive_sawReset (s : State) (p : Ports) : (s.drive p).sawReset = s.sawReset := rfl
@[simp] theorem State.drive_waitLeft (s : State) (p : Ports) : (s.drive p).waitLeft = s.waitLeft := rfl
@[simp] theorem State.drive_unspec (s : State) (p : Ports) : (s.drive p).unspec = s.unspec := rfl

/-! ## State.holding -/

@[simp] theorem State.holding_y0 (s : State) (r : Request) : (s.holding r).y0 = s.y0 := rfl
@[simp] theorem State.holding_y1 (s : State) (r : Request) : (s.holding r).y1 = s.y1 := rfl
@[simp] theorem State.holding_status (s : State) (r : Request) : (s.holding r).status = s.status := rfl
@[simp] theorem State.holding_busy (s : State) (r : Request) : (s.holding r).busy = true := rfl
@[simp] theorem State.holding_captured (s : State) (r : Request) : (s.holding r).captured = r := rfl
@[simp] theorem State.holding_params (s : State) (r : Request) : (s.holding r).params = s.params := rfl
@[simp] theorem State.holding_ports (s : State) (r : Request) : (s.holding r).ports = s.ports := rfl
@[simp] theorem State.holding_sawReset (s : State) (r : Request) : (s.holding r).sawReset = s.sawReset := rfl
@[simp] theorem State.holding_waitLeft (s : State) (r : Request) : (s.holding r).waitLeft = 0 := rfl
@[simp] theorem State.holding_unspec (s : State) (r : Request) : (s.holding r).unspec = s.unspec := rfl

/-! ## State.placeCommand -/

@[simp] theorem State.placeCommand_y0 (s : State) (c : Word32) : (s.placeCommand c).y0 = s.y0 := rfl
@[simp] theorem State.placeCommand_y1 (s : State) (c : Word32) : (s.placeCommand c).y1 = s.y1 := rfl
@[simp] theorem State.placeCommand_status (s : State) (c : Word32) : (s.placeCommand c).status = { s.status with valid := false } := rfl
@[simp] theorem State.placeCommand_busy (s : State) (c : Word32) : (s.placeCommand c).busy = true := rfl
@[simp] theorem State.placeCommand_captured (s : State) (c : Word32) : (s.placeCommand c).captured = { s.captured with cmd := c } := rfl
@[simp] theorem State.placeCommand_params (s : State) (c : Word32) : (s.placeCommand c).params = s.params := rfl
@[simp] theorem State.placeCommand_ports (s : State) (c : Word32) : (s.placeCommand c).ports = { s.ports with rst := false } := rfl
@[simp] theorem State.placeCommand_sawReset (s : State) (c : Word32) : (s.placeCommand c).sawReset = true := rfl
@[simp] theorem State.placeCommand_waitLeft (s : State) (c : Word32) : (s.placeCommand c).waitLeft = 0 := rfl
@[simp] theorem State.placeCommand_unspec (s : State) (c : Word32) : (s.placeCommand c).unspec = s.unspec := rfl

/-! ## State.withErrorResponse -/

@[simp] theorem State.withErrorResponse_y0 (s : State) (code : BitVec 2) : (s.withErrorResponse code).y0 = 0 := rfl
@[simp] theorem State.withErrorResponse_y1 (s : State) (code : BitVec 2) : (s.withErrorResponse code).y1 = 0 := rfl
@[simp] theorem State.withErrorResponse_status (s : State) (code : BitVec 2) : (s.withErrorResponse code).status = ⟨true, true, code⟩ := rfl
@[simp] theorem State.withErrorResponse_busy (s : State) (code : BitVec 2) : (s.withErrorResponse code).busy = false := rfl
@[simp] theorem State.withErrorResponse_captured (s : State) (code : BitVec 2) : (s.withErrorResponse code).captured = s.captured := rfl
@[simp] theorem State.withErrorResponse_params (s : State) (code : BitVec 2) : (s.withErrorResponse code).params = s.params := rfl
@[simp] theorem State.withErrorResponse_ports (s : State) (code : BitVec 2) : (s.withErrorResponse code).ports = s.ports := rfl
@[simp] theorem State.withErrorResponse_sawReset (s : State) (code : BitVec 2) : (s.withErrorResponse code).sawReset = s.sawReset := rfl
@[simp] theorem State.withErrorResponse_waitLeft (s : State) (code : BitVec 2) : (s.withErrorResponse code).waitLeft = 0 := rfl
@[simp] theorem State.withErrorResponse_unspec (s : State) (code : BitVec 2) : (s.withErrorResponse code).unspec = s.unspec := rfl

/-! ## State.resetWith -/

@[simp] theorem State.resetWith_params (p : Params) : (State.resetWith p).params = p := rfl
@[simp] theorem State.resetWith_y0 (p : Params) : (State.resetWith p).y0 = State.reset.y0 := rfl
@[simp] theorem State.resetWith_y1 (p : Params) : (State.resetWith p).y1 = State.reset.y1 := rfl
@[simp] theorem State.resetWith_status (p : Params) : (State.resetWith p).status = State.reset.status := rfl
@[simp] theorem State.resetWith_busy (p : Params) : (State.resetWith p).busy = State.reset.busy := rfl
@[simp] theorem State.resetWith_captured (p : Params) : (State.resetWith p).captured = State.reset.captured := rfl
@[simp] theorem State.resetWith_ports (p : Params) : (State.resetWith p).ports = State.reset.ports := rfl
@[simp] theorem State.resetWith_sawReset (p : Params) : (State.resetWith p).sawReset = State.reset.sawReset := rfl
@[simp] theorem State.resetWith_waitLeft (p : Params) : (State.resetWith p).waitLeft = State.reset.waitLeft := rfl
@[simp] theorem State.resetWith_unspec (p : Params) : (State.resetWith p).unspec = State.reset.unspec := rfl

end Sys2Proof.Machine
end

