-- ==== Sys2Proof/Laws/Ops.lean ====
section
/-!
SUPPORT. What each shared operation can do, said once: operands, completion, `exec`, an edge of the clock, a read of the
response, a transaction.
-/

namespace Sys2Proof.Machine

/-! ## Operands -/

@[simp] theorem lo32_zext64 (v : Word32) : lo32 (zext64 v) = v := by
  apply BitVec.eq_of_toNat_eq
  simp [lo32, zext64]
  omega

theorem pack_toNat (hi lo : Word32) : (pack hi lo).toNat = hi.toNat * 2 ^ 32 + lo.toNat := by
  unfold pack
  rw [BitVec.toNat_append, Nat.shiftLeft_eq, Nat.mul_comm, Nat.two_pow_add_eq_or_of_lt lo.isLt]

@[simp] theorem lo32_pack (hi lo : Word32) : lo32 (pack hi lo) = lo := by
  apply BitVec.eq_of_toNat_eq
  have h := pack_toNat hi lo
  simp only [lo32, BitVec.extractLsb'_toNat, Nat.shiftRight_zero]
  omega

@[simp] theorem hi32_pack (hi lo : Word32) : hi32 (pack hi lo) = hi := by
  apply BitVec.eq_of_toNat_eq
  have h := pack_toNat hi lo
  simp only [hi32, BitVec.extractLsb'_toNat, Nat.shiftRight_eq_div_pow]
  omega

@[simp] theorem pack_lanes (v : Word64) : pack (hi32 v) (lo32 v) = v := by
  apply BitVec.eq_of_toNat_eq
  rw [pack_toNat]
  simp only [hi32, lo32, BitVec.extractLsb'_toNat, Nat.shiftRight_eq_div_pow]
  omega

theorem maskBytes_toNat {w : Nat} (v : BitVec w) (r : Nat) (h : 8 * r ≤ w) :
    (maskBytes v r).toNat = v.toNat % 2 ^ (8 * r) := by
  have h1 : 2 ^ (8 * r) ≤ 2 ^ w := Nat.pow_le_pow_right (by decide) h
  have h2 : 0 < 2 ^ (8 * r) := Nat.two_pow_pos _
  rw [maskBytes, BitVec.toNat_and, BitVec.toNat_ofNat, Nat.mod_eq_of_lt (by omega), Nat.and_two_pow_sub_one_eq_mod]

@[simp] theorem maskBytes_zero {w : Nat} (v : BitVec w) : maskBytes v 0 = 0 := by
  simp [maskBytes]

/-! ## Status -/

@[simp] theorem statusOk_valid : statusOk.valid = true := rfl
@[simp] theorem statusOk_err : statusOk.err = false := rfl
@[simp] theorem statusOk_code : statusOk.code = 0 := rfl
@[simp] theorem statusIllegal_valid (c : IllegalCause) : (statusIllegal c).valid = true := rfl
@[simp] theorem statusIllegal_err (c : IllegalCause) : (statusIllegal c).err = true := rfl
@[simp] theorem statusIllegal_code (c : IllegalCause) : (statusIllegal c).code = causeCode c := rfl
@[simp] theorem statusReset_valid : statusReset.valid = false := rfl
@[simp] theorem statusReset_err : statusReset.err = false := rfl
@[simp] theorem statusReset_code : statusReset.code = 0 := rfl

/-- Each field stands at its bits of the 4-bit register (spec/10_state.md R13). -/
theorem statusWord_fields (s : Status) :
    (statusWord s).getLsbD 0 = s.valid ∧ (statusWord s).getLsbD 1 = s.err ∧
      (statusWord s).extractLsb' 2 2 = s.code := by
  obtain ⟨v, e, c⟩ := s
  revert v e c
  decide

/-- A cause is never reported as 0. -/
theorem causeCode_ne_zero (c : IllegalCause) : causeCode c ≠ 0 := by cases c <;> decide

/-! ## What a meaning and a completion can do -/

/-- `exec` never faults and never refuses; when it answers, it has completed a legal operation or, for a term that is
no operation of the block, given the error response of a field error. -/
theorem exec_cases {i : Instr} {s t : State} (h : exec i s = .next t) :
    (∃ y0 y1, t = s.respond y0 y1) ∨ (i.wellFormed = false ∧ t = s.takeIllegal .illegalField) := by
  cases i
  case m3X32T rem =>
    simp only [exec, execM3X32T] at h
    split at h
    · exact .inl ⟨_, _, by injection h with h; exact h.symm⟩
    · next hr => exact .inr ⟨by simp [Instr.wellFormed]; omega, by injection h with h; exact h.symm⟩
  all_goals
    simp only [exec, execHmix32, execHmix64S, execHmix64K0, execHmix64K1, execHmix64K2, execHmix64K3, execHmix64Kmul,
      hmix64Respond, execHl16, execWh32, execM3X32B, execM3X86B, execM3X86T, execM3X64B, execM3X64T, execFmix32,
      execFmix64, execLdmuxC32, execLdmuxC64, execLdmuxC128S, execLdmuxCMur, execLdmuxC128U, bandRespond, execLdmuxM32,
      execLdmuxM86, execLdmuxM64, blocksRespond, Host.Outcome.next.injEq] at h
    exact .inl ⟨_, _, h.symm⟩

/-- The completion of the captured request: a legal operation's answer, or the error response. -/
theorem completeCaptured_cases {s t : State} (h : completeCaptured s = .next t) :
    (∃ y0 y1, t = s.respond y0 y1) ∨ (∃ c, t = s.takeIllegal c) := by
  unfold completeCaptured at h
  split at h
  · rcases exec_cases h with h | ⟨_, h⟩
    · exact .inl h
    · exact .inr ⟨_, h⟩
  · exact .inr ⟨_, by injection h with h; exact h.symm⟩

/-- What `exec` answers is a function of the captured request and of what the block was built with, and it writes `Y`,
`STATUS` and `BUSY` alone (spec/10_state.md R14, R15). -/
theorem exec_answers (i : Instr) (s : State) :
    ∃ a : Response, ∀ u : State, u.captured = s.captured → u.params = s.params →
      exec i u =
        .next { u with y0 := a.y0, y1 := a.y1, status := ⟨true, a.err, a.code⟩, busy := false, waitLeft := 0 } := by
  refine ⟨match exec i s with | .next t => t.response | .fault _ | .refused _ => ⟨0, 0, false, 0⟩, ?_⟩
  rintro ⟨_, _, _, _, _, _, _, _, _, _⟩ hu hp
  obtain ⟨_, _, _, _, _, _, _, _, _, _⟩ := s
  simp only at hu hp
  subst hu hp
  cases i
  case m3X32T rem => by_cases h : rem.toNat < 4 <;> simp only [exec, execM3X32T, h, if_true, if_false] <;> rfl
  all_goals rfl

/-- The completion of the captured request is a function of that request and of what the block was built with
(spec/10_state.md R15). -/
theorem completeCaptured_answers (s : State) :
    ∃ a : Response, ∀ u : State, u.captured = s.captured → u.params = s.params →
      completeCaptured u =
        .next { u with y0 := a.y0, y1 := a.y1, status := ⟨true, a.err, a.code⟩, busy := false, waitLeft := 0 } := by
  cases hd : decode s.captured.cmd with
  | error c =>
    refine ⟨⟨0, 0, true, causeCode c⟩, fun u hu _ => ?_⟩
    unfold completeCaptured
    rw [show decode u.captured.cmd = .error c by rw [hu, hd]]
    rfl
  | ok i =>
    obtain ⟨a, ha⟩ := exec_answers i s
    refine ⟨a, fun u hu hp => ?_⟩
    unfold completeCaptured
    rw [show decode u.captured.cmd = .ok i by rw [hu, hd]]
    exact ha u hu hp

/-- An edge answers in one of these ways and no other. -/
theorem step_cases {s t : State} (h : step s = .next t) :
    (s.ports.rst = true ∧ t = s.resetEdge) ∨
    (s.live ∧ s.busy = true ∧ s.waitLeft ≠ 0 ∧ t = s.waitEdge) ∨
    (s.live ∧ s.busy = true ∧ s.waitLeft = 0 ∧ completeCaptured s = .next t) ∨
    (s.live ∧ s.busy = false ∧ s.ports.reqValid = true ∧ t = s.accept s.ports.req) ∨
    (s.live ∧ s.busy = false ∧ s.ports.reqValid = false ∧ t = s) := by
  unfold step clockEdge busyEdge at h
  split at h
  · next hr => exact .inl ⟨hr, by injection h with h; exact h.symm⟩
  · next hr =>
    split at h
    · exact absurd h (by simp)
    · next hs =>
      have hl : s.live := ⟨by simpa using hs, by simpa using hr⟩
      split at h
      · next hb =>
        split at h
        · next hw => exact .inr (.inr (.inl ⟨hl, hb, hw, h⟩))
        · next hw => exact .inr (.inl ⟨hl, hb, hw, by injection h with h; exact h.symm⟩)
      · next hb =>
        have hb : s.busy = false := by simpa using hb
        split at h
        · next hv => exact .inr (.inr (.inr (.inl ⟨hl, hb, hv, by injection h with h; exact h.symm⟩)))
        · next hv =>
          exact .inr (.inr (.inr (.inr ⟨hl, hb, by simpa using hv, by injection h with h; exact h.symm⟩)))

/-! ## Reading and transacting -/

/-- A read answers only a valid response of a block that has been reset, and then with what stands on the ports
(spec/10_state.md R24, spec/70_reset_and_hazards.md R152). -/
theorem readResponse_cases {s : State} {a : Response} (h : s.readResponse = .next a) :
    s.sawReset = true ∧ s.status.valid = true ∧ a = s.response := by
  unfold State.readResponse at h
  split at h
  · exact absurd h (by simp)
  · next hs =>
    split at h
    · next hv => exact ⟨by simpa using hs, hv, by injection h with h; exact h.symm⟩
    · exact absurd h (by simp)

/-- A read of `req_ready` answers only for a block that has been reset (spec/70_reset_and_hazards.md R152). -/
theorem readReady_cases {s : State} {b : Bool} (h : s.readReady = .next b) : s.sawReset = true ∧ b = !s.busy := by
  unfold State.readReady at h
  split at h
  · exact absurd h (by simp)
  · next hs => exact ⟨by simpa using hs, by injection h with h; exact h.symm⟩

/-- A transaction of a block that is ready is the acceptance and then the completion of its request. -/
theorem transact_ready {r : Request} {s : State} (hs : s.sawReset = true) (hb : s.busy = false) :
    transact r s = completeCaptured (s.accept r) := by
  simp [transact, hs, hb]

/-- A transaction line goes on only with an error-free response. -/
theorem callOp_cases {r : Request} {s t : State} {a : Response} (h : callOp r s = .next (t, a)) :
    transact r s = .next t ∧ t.status.valid = true ∧ a = t.response ∧ a.err = false := by
  unfold callOp at h
  split at h
  · next u hu =>
    split at h
    · next b hb =>
      split at h
      · exact absurd h (by simp)
      · next he =>
        simp only [Host.Outcome.next.injEq, Prod.mk.injEq] at h
        obtain ⟨rfl, rfl⟩ := h
        obtain ⟨_, hv, hr⟩ := readResponse_cases hb
        exact ⟨hu, hv, hr, by simpa using he⟩
    all_goals exact absurd h (by simp)
  all_goals exact absurd h (by simp)

/-- A line after another goes on only where the first went on. -/
theorem andThen_cases {α β : Type} {p : HostRun α} {f : α → HostRun β} {s u : State} {b : β}
    (h : andThen p f s = .next (u, b)) : ∃ t a, p s = .next (t, a) ∧ f a t = .next (u, b) := by
  unfold andThen at h
  split at h
  · next t a ht => exact ⟨t, a, ht, h⟩
  all_goals exact absurd h (by simp)

/-! ## City parameters -/

/-- The City 64-bit and 128-bit steps a revision supplies use neither avalanche (spec/45_fmix.md R84). -/
theorem cityOp64_no_avalanche (op : CityOp64) : op.instr ≠ .fmix32 ∧ op.instr ≠ .fmix64 := by
  cases op with
  | hmix64 m => revert m; decide
  | hl16 => decide
  | wh32 => decide

/-- Every operation a revision may use is well formed, so its command word is legal. -/
theorem cityOp64_wellFormed (op : CityOp64) : op.instr.wellFormed = true := by
  cases op with
  | hmix64 m => revert m; decide
  | hl16 => rfl
  | wh32 => rfl

@[simp] theorem strideOffsets_length (step first count : Nat) : (strideOffsets step first count).length = count := by
  simp [strideOffsets]

/-- Stride `i` stands `step * i` bytes after the first (spec/47_composition.md R114, R122). -/
theorem strideOffsets_get {step first count i : Nat} (h : i < count) :
    (strideOffsets step first count)[i]? = some (first + step * i) := by
  simp [strideOffsets, h]

/-- The offsets of a run of strides, one for each number below `count`. -/
theorem mem_strideOffsets {step first count off : Nat} :
    off ∈ strideOffsets step first count ↔ ∃ i < count, off = first + step * i := by
  simp [strideOffsets, eq_comm]

/-- The 128-bit loop leaves fewer than 128 bytes (spec/47_composition.md R123): its chunks are those of the first
`128 * (n / 128)` bytes. -/
theorem mem_halfStepOffsets128 {n off : Nat} :
    off ∈ halfStepOffsets128 n ↔ ∃ i, off = 64 * i ∧ off + 64 ≤ 128 * (n / 128) := by
  rw [halfStepOffsets128, mem_strideOffsets]
  constructor
  · rintro ⟨i, hi, rfl⟩
    exact ⟨i, by omega, by omega⟩
  · rintro ⟨i, rfl, h⟩
    exact ⟨i, by omega, by omega⟩

/-- At most four tail sub-steps are made (spec/47_composition.md R123). -/
theorem tailCount_le (n : Nat) : tailCount n ≤ 4 := by
  unfold tailCount
  omega

/-- The tail sub-steps are the same in either direction. -/
theorem mem_tailOffsets {down : Bool} {n off : Nat} :
    off ∈ tailOffsets down n ↔ ∃ i < tailCount n, off = n - 32 * tailCount n + 32 * i := by
  cases down <;> simp [tailOffsets, mem_strideOffsets]

/-- No sub-step goes past the input (spec/20_memory.md R28). -/
theorem tailOffsets_inside {down : Bool} {n off : Nat} (hn : 128 ≤ n) (h : off ∈ tailOffsets down n) :
    off + 32 ≤ n := by
  obtain ⟨i, hi, rfl⟩ := mem_tailOffsets.mp h
  have := tailCount_le n
  omega

/-- The short remainder is never dropped: every byte after the loop lies in a tail sub-step (spec/47_composition.md
R123). -/
theorem tailOffsets_cover {down : Bool} {n k : Nat} (hlo : 128 * (n / 128) ≤ k) (hhi : k < n) :
    ∃ off ∈ tailOffsets down n, off ≤ k ∧ k < off + 32 := by
  have hc : tailCount n = (n % 128 + 31) / 32 := rfl
  have := tailCount_le n
  exact ⟨_, mem_tailOffsets.mpr ⟨(k - (n - 32 * tailCount n)) / 32, by omega, rfl⟩, by omega, by omega⟩

end Sys2Proof.Machine
end

