-- ==== Sys2Proof/Laws/PerInstr.lean ====
section
/-!
SUPPORT. The families of statements about every instruction as syntax, one lemma per constructor.
-/

namespace Sys2Proof.Laws.EncodedFields

/-- The command word of an operation holds its unit, its mode and its REM in their fields and nothing in RSV
(spec/30_encoding.md R35, R39, R42). -/
def Statement (i : Instr) : Prop :=
  unitField (encode i) = i.unit ∧ modeField (encode i) = i.mode ∧ remField (encode i) = i.rem ∧
    rsvField (encode i) = 0

theorem hmix32 : Statement .hmix32 := by unfold Statement; decide
theorem hmix64S : Statement .hmix64S := by unfold Statement; decide
theorem hmix64K0 : Statement .hmix64K0 := by unfold Statement; decide
theorem hmix64K1 : Statement .hmix64K1 := by unfold Statement; decide
theorem hmix64K2 : Statement .hmix64K2 := by unfold Statement; decide
theorem hmix64K3 : Statement .hmix64K3 := by unfold Statement; decide
theorem hmix64Kmul : Statement .hmix64Kmul := by unfold Statement; decide
theorem hl16 : Statement .hl16 := by unfold Statement; decide
theorem wh32 : Statement .wh32 := by unfold Statement; decide
theorem m3X32B : Statement .m3X32B := by unfold Statement; decide
theorem m3X86B : Statement .m3X86B := by unfold Statement; decide
theorem m3X64B : Statement .m3X64B := by unfold Statement; decide
theorem fmix32 : Statement .fmix32 := by unfold Statement; decide
theorem fmix64 : Statement .fmix64 := by unfold Statement; decide
theorem ldmuxC32 : Statement .ldmuxC32 := by unfold Statement; decide
theorem ldmuxC64 : Statement .ldmuxC64 := by unfold Statement; decide
theorem ldmuxC128S : Statement .ldmuxC128S := by unfold Statement; decide
theorem ldmuxCMur : Statement .ldmuxCMur := by unfold Statement; decide
theorem ldmuxC128U : Statement .ldmuxC128U := by unfold Statement; decide
theorem ldmuxM32 : Statement .ldmuxM32 := by unfold Statement; decide
theorem ldmuxM86 : Statement .ldmuxM86 := by unfold Statement; decide
theorem ldmuxM64 : Statement .ldmuxM64 := by unfold Statement; decide
theorem m3X32T (rem : BitVec 4) : Statement (.m3X32T rem) := by unfold Statement; revert rem; decide
theorem m3X86T (rem : BitVec 4) : Statement (.m3X86T rem) := by unfold Statement; revert rem; decide
theorem m3X64T (rem : BitVec 4) : Statement (.m3X64T rem) := by unfold Statement; revert rem; decide

end Sys2Proof.Laws.EncodedFields
end

