-- ==== Sys2Proof/Tests/Slice0.lean ====
section
/-!
SUPPORT. Tests: the smoke test of WellFormed, the decoding of words written out from the opcode map, one or two vectors
of spec/95_test_vectors.md per operation, the state-machine vectors of its section 2.12, the six known vectors of its
section 1.1, and for each statement of Obligations.lean that has hypotheses a concrete state that meets them.
-/

namespace Sys2Proof.Tests

open Sys2Proof Sys2Proof.Machine

/-! ## WellFormed: the one check, refused and at its boundary (spec/30_encoding.md R38, R43) -/

theorem test_wellFormed_x32_tail_limit :
    (Instr.m3X32T 4).wellFormed = false ∧ (Instr.m3X32T 15).wellFormed = false ∧ (Instr.m3X32T 3).wellFormed = true := by
  decide

/-! ## Words written out from the encoding: RSV, REM, MODE, UNIT (spec/30_encoding.md R35, R39) -/

theorem test_decode_unit0 : decode 0b00000000000000000000000000000000 = .ok .hmix32 := by decide

theorem test_decode_unit1 :
    decode 0b00000000000000000000000000000001 = .ok .hmix64S ∧
    decode 0b00000000000000000000000000010001 = .ok .hmix64K0 ∧
    decode 0b00000000000000000000000000100001 = .ok .hmix64K1 ∧
    decode 0b00000000000000000000000000110001 = .ok .hmix64K2 ∧
    decode 0b00000000000000000000000001000001 = .ok .hmix64K3 ∧
    decode 0b00000000000000000000000001010001 = .ok .hmix64Kmul := by decide

theorem test_decode_units_2_3 :
    decode 0b00000000000000000000000000000010 = .ok .hl16 ∧
    decode 0b00000000000000000000000000000011 = .ok .wh32 := by decide

theorem test_decode_unit4_body :
    decode 0b00000000000000000000000000000100 = .ok .m3X32B ∧
    decode 0b00000000000000000000000000100100 = .ok .m3X86B ∧
    decode 0b00000000000000000000000001000100 = .ok .m3X64B := by decide

theorem test_decode_unit4_tail :
    decode 0b00000000000000000000001100010100 = .ok (.m3X32T 3) ∧
    decode 0b00000000000000000000111100110100 = .ok (.m3X86T 15) ∧
    decode 0b00000000000000000000100101010100 = .ok (.m3X64T 9) := by decide

theorem test_decode_units_5_6 :
    decode 0b00000000000000000000000000000101 = .ok .fmix32 ∧
    decode 0b00000000000000000000000000000110 = .ok .fmix64 := by decide

theorem test_decode_unit7 :
    decode 0b00000000000000000000000000000111 = .ok .ldmuxC32 ∧
    decode 0b00000000000000000000000000010111 = .ok .ldmuxC64 ∧
    decode 0b00000000000000000000000000100111 = .ok .ldmuxC128S ∧
    decode 0b00000000000000000000000000110111 = .ok .ldmuxCMur ∧
    decode 0b00000000000000000000000001000111 = .ok .ldmuxC128U ∧
    decode 0b00000000000000000000000001010111 = .ok .ldmuxM32 ∧
    decode 0b00000000000000000000000001100111 = .ok .ldmuxM86 ∧
    decode 0b00000000000000000000000001110111 = .ok .ldmuxM64 := by decide

/-- spec/95_test_vectors.md section 2.11. -/
theorem test_illegal_words :
    decode 0x00000008 = .error .illegalUnit ∧ decode 0x0000000f = .error .illegalUnit ∧
    decode 0x00000010 = .error .illegalMode ∧ decode 0x00000061 = .error .illegalMode ∧
    decode 0x00000064 = .error .illegalMode ∧ decode 0x00000087 = .error .illegalMode ∧
    decode 0x00000100 = .error .illegalField ∧ decode 0x00000124 = .error .illegalField ∧
    decode 0x00000414 = .error .illegalField ∧ decode 0x00010f34 = .error .illegalField ∧
    decode 0x80000000 = .error .illegalField := by decide

/-- The examples of spec/60_exceptions.md R134. -/
theorem test_illegal_priority :
    decode 0x800010f8 = .error .illegalUnit ∧ decode 0x00001061 = .error .illegalMode ∧
    decode 0xffffffff = .error .illegalUnit := by decide

/-- A number wider than the `cmd` port is no command word; the table's numbering is the port's. -/
theorem test_table_word :
    decodeTableWord 32 0x314 = some (.m3X32T 3) ∧ decodeTableWord 32 0x414 = none ∧
    decodeTableWord 40 0x100000000 = none := by decide

/-- The mnemonics of the opcode table, row by row, are those of the operations its words decode to. -/
theorem test_opcode_table :
    opcodeTable.all (fun r => (decode r.matchBits).toOption.map Instr.mnemonic == some r.mnemonic) = true := by decide

/-! ## The operations: vectors of spec/95_test_vectors.md part 2 -/

/-- The response of EXEC with no error. -/
abbrev okResponse (y0 y1 : Word64) : Option Response := some ⟨y0, y1, false, 0⟩

/-- EXEC of a command word on its operands. -/
abbrev respond (cmd : Word32) (x0 : Word64) (x1 x2 x3 x4 x5 : Word64 := 0) : Option Response :=
  execResponse defaultParams ⟨cmd, x0, x1, x2, x3, x4, x5⟩

theorem test_hmix32_all_ones : respond 0x0 0xffffffff 0xffffffff = okResponse 0xb849f5ee 0 := by decide
theorem test_hmix32_upper_ignored :
    respond 0x0 0xdeadbeef00000003 0xcafebabee2c9651d = okResponse 0x109b458d 0 := by decide

theorem test_hmix64S : respond 0x01 0x8000000000000000 = okResponse 0x8000000000010000 0 := by decide
theorem test_hmix64K0 : respond 0x11 0x0123456789abcdef = okResponse 0x4ede8f9635eefbbf 0 := by decide
theorem test_hmix64K1 : respond 0x21 0x04cd821f65e5f285 = okResponse 0xfbf3895d8b822a7a 0 := by decide
theorem test_hmix64K2 : respond 0x31 0x4004a70498996976 = okResponse 0x3a912f483a4ece31 0 := by decide
theorem test_hmix64K3 : respond 0x41 0xffffffffffffffff = okResponse 0x50715ec335520000 0 := by decide
theorem test_hmix64Kmul : respond 0x51 0x0000800000000000 = okResponse 0xb4946a08eb382d69 0 := by decide

theorem test_hl16_asymmetric :
    respond 0x2 1 0 = okResponse 0xb91445ce692f0ce5 0 ∧ respond 0x2 0 1 = okResponse 0xf4ff80ec63c103d4 0 := by decide
theorem test_hl16_p6 :
    respond 0x2 0xfbf3895d8b822a7a 0xcd025645bc7c6dda = okResponse 0x6b54149e26ed6256 0 := by decide

theorem test_wh32_each_operand :
    respond 0x3 1 0 0 0 0 0 = okResponse 1 0x0000080000100001 ∧ respond 0x3 0 1 0 0 0 0 = okResponse 1 0x100000 ∧
    respond 0x3 0 0 1 0 0 0 = okResponse 1 0x100000 ∧ respond 0x3 0 0 0 1 0 0 = okResponse 1 0x0000080000000000 ∧
    respond 0x3 0 0 0 0 1 0 = okResponse 1 0x0000080000100001 ∧
    respond 0x3 0 0 0 0 0 1 = okResponse 0 0x0000080000000000 := by decide
theorem test_wh32_bytes :
    respond 0x3 0x0706050403020100 0x0f0e0d0c0b0a0908 0x1716151413121110 0x1f1e1d1c1b1a1918 0x0123456789abcdef
      0xfedcba9876543210 = okResponse 0x4d6b89a7c5e4021f 0xb1b4b03b3e31b4b5 := by decide

theorem test_m3X32B_upper_ignored :
    respond 0x4 0xdeadbeef00001337 0 0xcafebabe6e617453 = okResponse 0x43a31d19 0 := by decide

theorem test_m3X32T_masks_bytes :
    respond 0x014 0x9cbb8207 0 0xaa345672 = okResponse 0x9cbb8207 0 ∧
    respond 0x114 0x9cbb8207 0 0xaa345672 = okResponse 0x9459d72f 0 ∧
    respond 0x214 0x9cbb8207 0 0xaa345672 = okResponse 0x566e3fbb 0 ∧
    respond 0x314 0x9cbb8207 0 0xaa345672 = okResponse 0x5e534d0d 0 := by decide
theorem test_m3X32T_rem_limit :
    respond 0x414 0x9cbb8207 0 0xaa345672 = some ⟨0, 0, true, 3⟩ ∧
    exec (.m3X32T 4) State.reset = .next (State.reset.withErrorResponse 3) := ⟨by decide, rfl⟩

theorem test_m3X86B_zero : respond 0x24 0 0 0 0 = okResponse 0x0bcaa747561ccd1b 0xe13c3c9e96cd1c35 := by decide
theorem test_m3X86B_p2 :
    respond 0x24 0x0000133700001337 0x0000133700001337 0x647261646e617453 0x746e456b636f6c42 =
      okResponse 0x57b6f9b221936a0f 0x20c2d7d15e2c70df := by decide

theorem test_m3X86T_rem5 :
    respond 0x534 0x57b6f9b221936a0f 0x20c2d7d15e2c70df 0x7263736544797469 0xaa3456726f747069 =
      okResponse 0x65a59b1796a9cfac 0x20c2d7d15e2c70df := by decide
theorem test_m3X86T_rem15 :
    respond 0xf34 0x57b6f9b221936a0f 0x20c2d7d15e2c70df 0x7263736544797469 0xaa3456726f747069 =
      okResponse 0x5a9df49996a9cfac 0xf1fdc3eb749433c6 := by decide

theorem test_m3X64B_k1 : respond 0x44 0 0 1 0 = okResponse 0xc8dad7b91b1fffb1 0xec46369dbfe9592a := by decide
theorem test_m3X64B_p3 :
    respond 0x44 0x1337 0x1337 0x647261646e617453 0x746e456b636f6c42 =
      okResponse 0x88cbcf1109b8f98b 0xc82a6f27e607c2f9 := by decide

theorem test_m3X64T_rem8 :
    respond 0x854 0x88cbcf1109b8f98b 0xc82a6f27e607c2f9 0x7263736544797469 0xaa3456726f747069 =
      okResponse 0xbaab7980ac10810f 0xc82a6f27e607c2f9 := by decide
theorem test_m3X64T_rem9 :
    respond 0x954 0x88cbcf1109b8f98b 0xc82a6f27e607c2f9 0x7263736544797469 0xaa3456726f747069 =
      okResponse 0xbaab7980ac10810f 0x1073acf0e0ae6bb7 := by decide

theorem test_fmix32_top_bit : respond 0x5 0x80000000 = okResponse 0x6d3c65a0 0 := by decide
theorem test_fmix32_known : respond 0x5 0xdeadbeef5e534d12 = okResponse 0x50e58a50 0 := by decide
theorem test_fmix64_one : respond 0x6 1 = okResponse 0xb456bcfc34c2cb2c 0 := by decide
theorem test_fmix64_p3 : respond 0x6 0xb8963070b41dcd42 = okResponse 0x3cd033f0037af3ab 0 := by decide

theorem test_ldmuxC32 :
    respond 0x07 4 = okResponse 0 0 ∧ respond 0x07 5 = okResponse 1 0 ∧ respond 0x07 12 = okResponse 1 0 ∧
    respond 0x07 13 = okResponse 2 0 ∧ respond 0x07 24 = okResponse 2 0 ∧ respond 0x07 25 = okResponse 3 0 ∧
    respond 0x07 0x100000000 = okResponse 3 0 := by decide
theorem test_ldmuxC64 :
    respond 0x17 16 = okResponse 0 0 ∧ respond 0x17 17 = okResponse 1 0 ∧ respond 0x17 32 = okResponse 1 0 ∧
    respond 0x17 33 = okResponse 2 0 ∧ respond 0x17 64 = okResponse 2 0 ∧ respond 0x17 65 = okResponse 3 0 := by decide
theorem test_ldmuxC128S :
    respond 0x27 127 = okResponse 0 0 ∧ respond 0x27 128 = okResponse 1 0 ∧
    respond 0x27 0xffffffffffffffff = okResponse 1 0 := by decide
theorem test_ldmuxCMur : respond 0x37 16 = okResponse 0 0 ∧ respond 0x37 17 = okResponse 1 0 := by decide
theorem test_ldmuxC128U :
    respond 0x47 7 = okResponse 0 0 ∧ respond 0x47 8 = okResponse 1 0 ∧ respond 0x47 15 = okResponse 1 0 ∧
    respond 0x47 16 = okResponse 2 0 := by decide
theorem test_ldmuxM32 :
    respond 0x57 31 = okResponse 0x303 7 ∧
    respond 0x57 0xffffffffffffffff = okResponse 0x303 0x3fffffffffffffff := by decide
theorem test_ldmuxM86 : respond 0x67 15 = okResponse 0xf0f 0 ∧ respond 0x67 16 = okResponse 0 1 := by decide
theorem test_ldmuxM64 : respond 0x77 31 = okResponse 0xf0f 1 ∧ respond 0x77 32 = okResponse 0 2 := by decide

/-! ## The state machine: vectors of spec/95_test_vectors.md section 2.12, one edge each -/

/-- The request of steps 2 and 7. -/
abbrev fmixRequest : Request := ⟨0x00000005, 0x5e534d12, 0, 0, 0, 0, 0⟩

/-- A block at the completing edge of the operation in flight. -/
abbrev completing (r : Request) : State := { State.reset with busy := true, captured := r }

/-- Step 2: accept. -/
theorem test_step_accept :
    step (State.reset.drive ⟨false, true, fmixRequest⟩) =
      .next ((State.reset.drive ⟨false, true, fmixRequest⟩).accept fmixRequest) := rfl

/-- Step 3: complete. -/
theorem test_step_complete :
    step (completing fmixRequest) =
      .next { State.reset with
        y0 := 0x50e58a50, y1 := 0, status := ⟨true, false, 0⟩, captured := fmixRequest } := rfl

/-- Step 6: the completion of an illegal command. -/
theorem test_step_illegal :
    step (completing ⟨0x00000008, 7, 7, 7, 7, 7, 7⟩) =
      .next { State.reset with
        y0 := 0, y1 := 0, status := ⟨true, true, 1⟩, captured := ⟨0x00000008, 7, 7, 7, 7, 7, 7⟩ } := rfl

/-- Step 10: a reset abandons the operation in flight, at its completing edge too. -/
theorem test_step_reset_wins :
    step ((completing fmixRequest).drive ⟨true, true, fmixRequest⟩) =
      .next ((completing fmixRequest).drive ⟨true, true, fmixRequest⟩).resetEdge := rfl

/-- An edge of the latency that is not the completing one. -/
theorem test_step_waits :
    step { completing fmixRequest with waitLeft := 2 } = .next { completing fmixRequest with waitLeft := 1 } := rfl

/-- Before the first reset nothing happens but a reset (spec/70_reset_and_hazards.md R152). -/
theorem test_step_before_reset : step State.reset.powerCycle = .refused .beforeFirstReset := rfl

/-- The placed word is the very next instruction. -/
theorem test_placed_word_runs :
    step (State.reset.withFetchWord 32 0x51) = exec .hmix64Kmul (State.reset.withFetchWord 32 0x51) := rfl

/-- STATUS is `CODE`, `ERR`, `VALID` from the top (spec/10_state.md R13). -/
theorem test_status_word :
    statusWord (statusIllegal .illegalMode) = 0b1011 ∧ statusWord statusOk = 0b0001 := by decide

/-! ## The host's side -/

/-- `"abc"`. -/
abbrev abc : List Byte := [0x61, 0x62, 0x63]

/-- `"StandardBlockEntityDescriptorV4"` (spec/95_test_vectors.md section 1.1). -/
abbrev descriptor : List Byte :=
  [0x53, 0x74, 0x61, 0x6e, 0x64, 0x61, 0x72, 0x64, 0x42, 0x6c, 0x6f, 0x63, 0x6b, 0x45, 0x6e, 0x74, 0x69, 0x74, 0x79,
    0x44, 0x65, 0x73, 0x63, 0x72, 0x69, 0x70, 0x74, 0x6f, 0x72, 0x56, 0x34]

/-- The value a host sequence ends with on a block that has just been reset. -/
def digestOf {α : Type} (p : HostRun α) : Option α :=
  match p State.reset with
  | .next (_, d) => some d
  | .fault _ | .refused _ => none

theorem test_known_vector_1 : digestOf (cityHash32 .noneChosen .noneChosen abc) = some 795041479 := by decide
theorem test_known_vector_2 : digestOf (cityHash64 .noneChosen abc) = some 4220206313085259313 := by decide
theorem test_known_vector_3 :
    digestOf (cityHash128 .noneChosen abc) = some 26133304454536238711123707289922914558 := by decide +kernel
theorem test_known_vector_4 : digestOf (murmur3Hash32 descriptor 4919) = some 1357220432 := by decide +kernel
theorem test_known_vector_5 :
    digestOf (murmur3Hash128 descriptor 4919) = some 0x4da5b4125adab9dc7d30c1c10bb975f7 := by decide
theorem test_known_vector_6 :
    digestOf (murmur3Hash128X64 descriptor 4919) = some 0xb15ad2fb6e6b679225e57206d95bdb79 := by decide

/-- Program P11: the byte 0xff sign-extended. -/
theorem test_city32_signed_byte : digestOf (cityHash32 .noneChosen .noneChosen [0xff]) = some 0x1d89fece := by decide

/-- A loop whose mixing changes nothing and whose seed words are those of the last WH32 vector of
spec/95_test_vectors.md section 2.4. -/
def vectorLoop : CityLoop :=
  { CityLoop.unreached with vSeeds := fun _ _ _ _ _ => (0x0123456789abcdef, 0xfedcba9876543210) }

/-- The chunk `00 01 .. 1f` and then zeros. -/
def vectorChunk : List Byte := (List.range 32).map (BitVec.ofNat 8) ++ List.replicate 32 0

/-- `v` is the pair of that vector, `w` the zeros of WH32 on zeros, and `x` and `z` are swapped. -/
theorem test_half_step :
    digestOf (cityHalfStep vectorLoop vectorChunk 0 0 ⟨1, 2, 3, 4, 5, 0, 0⟩) =
      some ⟨3, 2, 1, 0x4d6b89a7c5e4021f, 0xb1b4b03b3e31b4b5, 0, 0⟩ := by decide +kernel

/-- A revision that feeds the vector of spec/95_test_vectors.md section 2.3 to the compressor from 4 bytes on, by HL16 up
to 8 bytes and by HMIX64.S and the host's multiplies, with the same multiplier, from 9 on. -/
def feedRev : CityRev :=
  { CityRev.noneChosen with
    hash64 := { CityLong64.noneChosen with
      short := fun n => .value ⟨1, 0, if n ≤ 8 then none else some kmul⟩ } }

/-- Both compressors; the short case of `city_murmur` runs on inputs of 4 to 16 bytes; with none chosen they refuse. -/
theorem test_city_short_band :
    digestOf (cityHash64 feedRev (descriptor.take 4)) = some 0xb91445ce692f0ce5 ∧
    digestOf (cityHash64 feedRev (descriptor.take 16)) = some 0xb91445ce692f0ce5 ∧
    (digestOf (cityHash128 feedRev (descriptor.take 7))).isSome = true ∧
    (digestOf (cityHash128WithSeed feedRev (descriptor.take 8) 1 2)).isSome = true ∧
    digestOf (cityHash64 .noneChosen (descriptor.take 4)) = none := by decide +kernel

/-- A use of the seed that changes nothing in band 0: the chain of program P11 for the byte 0xff, whose `b` is -1 and whose
`c` is 9 exclusive-or -1. -/
def idleSeedUse : CitySeedUse32 :=
  { CitySeedUse32.noneChosen with band0 := fun _ _ => .value (9 ^^^ 0xffffffff, #v[1, 0xffffffff]) }

theorem test_city_seed_use :
    digestOf (cityHash32 .noneChosen idleSeedUse [0xff] 5) = some 0x1d89fece ∧
    digestOf (cityHash32 .noneChosen .noneChosen [0xff] 5) = none := by decide +kernel

/-- A long band of two strides that gives the first word of the last one: strides lie 20 bytes apart. -/
def lastWordRev : CityRev :=
  { CityRev.noneChosen with
    long32 := { CityLong32.noneChosen with
      start := fun _ => .value ⟨0, 0, 0⟩
      count := fun _ => 2
      stride := fun _ _ l w => ⟨l.f, l.h, w.w0⟩ } }

theorem test_city_strides :
    strideOffsets 20 0 3 = [0, 20, 40] ∧
    digestOf (cityHash32 lastWordRev .noneChosen ((List.range 40).map (BitVec.ofNat 8))) = some 0x17161514 := by
  decide +kernel

/-- The half-steps and tail sub-steps of spec/47_composition.md R119 and R123 at the ends of a block. -/
theorem test_city_chunk_offsets :
    halfStepOffsets64 { CityLong64.noneChosen with iterations := fun _ => 2 } 128 = [0, 0, 64, 64] ∧
    halfStepOffsets128 255 = [0, 64] ∧ tailOffsets false 255 = [127, 159, 191, 223] ∧
    halfStepOffsets128 256 = [0, 64, 128, 192] ∧ tailOffsets true 256 = [] ∧ tailOffsets true 290 = [258, 226] := by
  decide

/-- A revision whose long 128-bit path starts from zeros and changes nothing of its own. -/
def idleLongRev : CityRev :=
  { CityRev.noneChosen with
    long128 := { CityLong128.noneChosen with start := fun _ _ _ => .value ⟨0, 0, 0, 0, 0, 0, 0⟩ } }

/-- On zeros every HL16 and WH32 gives 0 (spec/95_test_vectors.md sections 2.3, 2.4), and so does the path. -/
theorem test_city_long128 :
    digestOf (cityHash128WithSeed idleLongRev (List.replicate 130 0) 0 0) = some 0 := by decide +kernel

/-- An out-of-range fetch faults, at the boundary (spec/20_memory.md R28). -/
theorem test_fetch_bound :
    fetch32 [1, 2, 3, 4] 0 = .next 0x04030201 ∧ fetch32 [1, 2, 3, 4] 1 = .fault .fetchOutOfRange := ⟨rfl, rfl⟩

/-- The aliases (spec/30_encoding.md R46). -/
theorem test_alias : encode Alias.mur.expand = 0x00000000 ∧ encode Alias.hashLen16.expand = 0x00000002 := by decide

/-! ## Witnesses: for each statement with hypotheses, a state and operands that meet them together -/

/-- A block with these operands captured. -/
abbrev operands (x0 : Word64) (x1 x2 x3 x4 x5 : Word64 := 0) : State :=
  { State.reset with captured := ⟨0, x0, x1, x2, x3, x4, x5⟩ }

/-- A block in DONE, holding the response of `fmixRequest`. -/
abbrev done : State :=
  { State.reset with y0 := 0x50e58a50, status := ⟨true, false, 0⟩, captured := fmixRequest }

/-- A block in DONE, holding an error response. -/
abbrev doneIllegal : State := (completing ⟨0x8, 0, 0, 0, 0, 0, 0⟩).takeIllegal .illegalUnit

theorem witness_DecodeOfEncode :
    (Instr.m3X32T 3).wellFormed = true ∧ (Instr.m3X86T 15).wellFormed = true ∧ Instr.wh32.wellFormed = true := by decide

theorem witness_OpcodeTableSelects : (⟨"M3.X32.T", 0x00000014, 0xfffffcff⟩ : OpcodeRow) ∈ opcodeTable := by decide

theorem witness_OperandBitsIgnored :
    (operands 0xff00000001 5 0xaa3456).params = (operands 1 0 0x123456).params ∧
    seenBy (.m3X32T 2) (operands 0xff00000001 5 0xaa3456).captured = seenBy (.m3X32T 2) (operands 1 0 0x123456).captured ∧
    (∃ t, exec (.m3X32T 2) (operands 0xff00000001 5 0xaa3456) = .next t) ∧
    (∃ t, exec (.m3X32T 2) (operands 1 0 0x123456) = .next t) := ⟨rfl, by decide, ⟨_, rfl⟩, ⟨_, rfl⟩⟩

theorem witness_StepRunsDecoded :
    (completing fmixRequest).live ∧ (completing fmixRequest).busy = true ∧ (completing fmixRequest).waitLeft = 0 ∧
    decode (completing fmixRequest).captured.cmd = .ok .fmix32 := by decide

theorem witness_PlacedWordRuns : 0x314 < 2 ^ 32 ∧ decodeTableWord 32 0x314 = some (.m3X32T 3) := by decide

/-- Each cause: a unit of 8, mode 6 of unit 1, and REM = 4 of M3.X32.T. -/
theorem witness_IllegalCommandResponse :
    (completing ⟨0x8, 0, 0, 0, 0, 0, 0⟩).live ∧ (completing ⟨0x8, 0, 0, 0, 0, 0, 0⟩).busy = true ∧
    (completing ⟨0x8, 0, 0, 0, 0, 0, 0⟩).waitLeft = 0 ∧
    decode (completing ⟨0x8, 0, 0, 0, 0, 0, 0⟩).captured.cmd = .error .illegalUnit ∧
    decode (completing ⟨0x61, 0, 0, 0, 0, 0, 0⟩).captured.cmd = .error .illegalMode ∧
    decode (completing ⟨0x414, 0, 0, 0, 0, 0, 0⟩).captured.cmd = .error .illegalField := by decide

theorem witness_AcceptanceEdge :
    (State.reset.drive ⟨false, true, fmixRequest⟩).live ∧
    (State.reset.drive ⟨false, true, fmixRequest⟩).ports.reqValid = true ∧
    (State.reset.drive ⟨false, true, fmixRequest⟩).reqReady = true ∧
    (done.drive ⟨false, true, fmixRequest⟩).reqReady = true ∧
    (∃ t, step (done.drive ⟨false, true, fmixRequest⟩) = .next t ∧ t.busy = true) ∧ done.busy = false :=
  ⟨by decide, rfl, rfl, rfl, ⟨_, rfl, rfl⟩, rfl⟩

/-- On the completing edge and on one before it. -/
theorem witness_BusyLooksAtNoRequest :
    (completing fmixRequest).live ∧ (completing fmixRequest).busy = true ∧
    (∃ t, step (completing fmixRequest) = .next t) ∧
    (∃ t, step { completing fmixRequest with waitLeft := 1 } = .next t) := ⟨by decide, rfl, ⟨_, rfl⟩, ⟨_, rfl⟩⟩

theorem witness_ResetEdge : (done.drive ⟨true, true, fmixRequest⟩).ports.rst = true := rfl

theorem witness_ReadyBlockIdles :
    done.live ∧ done.busy = false ∧ done.ports.reqValid = false ∧ State.reset.live ∧ State.reset.busy = false := by
  decide

/-- A block in DONE that loses power is no longer readable. -/
theorem test_power_removed :
    done.readResponse = .next ⟨0x50e58a50, 0, false, 0⟩ ∧ done.readReady = .next true ∧
    done.powerCycle.readResponse = .refused .beforeFirstReset := ⟨rfl, rfl, rfl⟩

theorem witness_NothingBeforeFirstReset :
    State.reset.ports.rst = false ∧ (done.drive ⟨true, false, fmixRequest⟩).ports.rst = true := by decide

theorem witness_ReadNeedsValid :
    State.reset.sawReset = true ∧ State.reset.status.valid = false ∧ done.sawReset = true ∧ done.status.valid = true := by
  decide

/-- A latency of 3, with its first and its last edge. -/
theorem witness_CompletionGuaranteed :
    ({ completing fmixRequest with waitLeft := 2 } : State).live ∧ (completing fmixRequest).busy = true ∧
    runEdges 2 { completing fmixRequest with waitLeft := 2 } = .next { completing fmixRequest with waitLeft := 0 } ∧
    (∃ t, runEdges 3 { completing fmixRequest with waitLeft := 2 } = .next t ∧ t.busy = false) :=
  ⟨by decide, rfl, rfl, ⟨_, rfl, rfl⟩⟩

theorem witness_ResetAbandonsOperation :
    ((completing fmixRequest).drive ⟨true, false, fmixRequest⟩).ports.rst = true ∧
    (∃ u, transact fmixRequest ((completing fmixRequest).drive ⟨true, false, fmixRequest⟩).resetEdge = .next u ∧
      u.readResponse = .next ⟨0x50e58a50, 0, false, 0⟩) ∧
    (∃ u, transact fmixRequest (State.resetWith (completing fmixRequest).params) = .next u) := ⟨rfl, ⟨_, rfl, rfl⟩, ⟨_, rfl⟩⟩

/-- In each phase, DONE with and without an error. -/
theorem witness_PhaseInvariantKept :
    State.reset.phaseInv ∧ (completing fmixRequest).phaseInv ∧ done.phaseInv ∧ doneIllegal.phaseInv ∧
    (∃ t, step (completing fmixRequest) = .next t) := ⟨by decide, by decide, by decide, by decide, ⟨_, rfl⟩⟩

theorem witness_ResponseInvariantKept :
    done.responseInv ∧ doneIllegal.responseInv ∧ (completing fmixRequest).responseInv ∧
    (∃ t, step done = .next t) ∧ (∃ t, step (completing fmixRequest) = .next t) :=
  ⟨by decide, by decide, by decide, ⟨_, rfl⟩, ⟨_, rfl⟩⟩

theorem witness_HistoryIndependence :
    State.reset.sawReset = true ∧ (completing fmixRequest).sawReset = true ∧ doneIllegal.sawReset = true ∧
    State.reset.params = defaultParams ∧ doneIllegal.params = defaultParams := by decide

theorem witness_ControlDependsOnCommandOnly :
    respond 0x2 1 0 = okResponse 0xb91445ce692f0ce5 0 ∧ respond 0x2 0 1 = okResponse 0xf4ff80ec63c103d4 0 := by decide

theorem witness_NoOperandCausesError :
    (Instr.m3X64T 15).wellFormed = true ∧ Instr.hmix64K0.wellFormed = true := by decide

theorem witness_ErrorsAreNotSticky : doneIllegal.sawReset = true ∧ decode fmixRequest.cmd = .ok .fmix32 := by decide

theorem witness_EdgesRefineAtomic :
    done.sawReset = true ∧ done.busy = false ∧ State.reset.sawReset = true ∧ State.reset.busy = false := by decide

/-- An instance that exists and one that does not. -/
theorem witness_InstancesShareNothing :
    stepInstance [done, State.reset] 1 = .next [done, State.reset] ∧
    stepInstance [done, State.reset] 2 = .next [done, State.reset] ∧
    (∃ after, stepInstance [done, completing fmixRequest] 1 = .next after ∧ after[0]? = some done) :=
  ⟨rfl, rfl, ⟨_, rfl, rfl⟩⟩

/-- The defaults, and the ends of the range. -/
theorem witness_Wh32Result :
    0 < State.reset.params.whRot1 ∧ State.reset.params.whRot1 < 64 ∧ 0 < State.reset.params.whRot2 ∧
    State.reset.params.whRot2 < 64 ∧ 0 < (State.resetWith ⟨1, 63⟩).params.whRot1 ∧
    (State.resetWith ⟨1, 63⟩).params.whRot2 < 64 := by decide

/-- The two clauses at their boundary. -/
theorem witness_M3X32TResult : (3 : BitVec 4).toNat < 4 ∧ 4 ≤ (4 : BitVec 4).toNat := by decide

theorem witness_M3X32TIllFormedTerm :
    4 ≤ (4 : BitVec 4).toNat ∧ (completing ⟨0x414, 0, 0, 0, 0, 0, 0⟩).live ∧
    (completing ⟨0x414, 0, 0, 0, 0, 0, 0⟩).busy = true ∧ (completing ⟨0x414, 0, 0, 0, 0, 0, 0⟩).waitLeft = 0 ∧
    (completing ⟨0x414, 0, 0, 0, 0, 0, 0⟩).captured.cmd = encode (.m3X32T 4) := by decide

theorem witness_Hmix32EqualsM3X32B :
    lo32 (operands 3 0xe2c9651d).captured.x0 = lo32 (operands 0xe2c9651d 0 3).captured.x2 ∧
    lo32 (operands 3 0xe2c9651d).captured.x1 = lo32 (operands 0xe2c9651d 0 3).captured.x0 ∧
    (∃ t, exec .hmix32 (operands 3 0xe2c9651d) = .next t) ∧ (∃ t, exec .m3X32B (operands 0xe2c9651d 0 3) = .next t) :=
  ⟨by decide, by decide, ⟨_, rfl⟩, ⟨_, rfl⟩⟩

theorem witness_ConstantsReadBack : (operands 1).captured.x0 = 1 := rfl

theorem witness_ShiftMixBijective :
    (operands 0x8000000000000000).captured.x0 = 0x8000000000000000 ∧
    Answers .hmix64S (operands 0x8000000000000000) 0x8000000000010000 0 := ⟨rfl, rfl⟩

theorem witness_AvalanchesBijective :
    lo32 (operands 0x80000000).captured.x0 = 0x80000000 ∧ Answers .fmix32 (operands 0x80000000) 0x6d3c65a0 0 ∧
    Answers .fmix64 (operands 1) 0xb456bcfc34c2cb2c 0 ∧ Answers .fmix32 (operands 0) 0 0 := ⟨rfl, rfl, rfl, rfl⟩

/-- `u = 1, v = 0`. -/
theorem witness_Hl16ByHmix64 :
    ∃ p' q' r', exec .hmix64S (operands kmul) = .next p' ∧ exec .hmix64Kmul (operands (p'.y0 * kmul)) = .next q' ∧
      exec .hl16 (operands 1 0) = .next r' ∧ (operands kmul).captured.x0 = (1 ^^^ 0) * kmul ∧
      (operands (p'.y0 * kmul)).captured.x0 = (0 ^^^ p'.y0) * kmul :=
  ⟨_, _, _, rfl, rfl, rfl, rfl, rfl⟩

theorem witness_TailIsReverseLoop : (3 : BitVec 4).toNat < 4 ∧ (0 : BitVec 4).toNat < 4 := by decide

/-- Every clause at its boundary: REM 0, 4, 8 and 12. -/
theorem witness_UntouchedLanesPass :
    (0 : BitVec 4).toNat = 0 ∧ (4 : BitVec 4).toNat ≤ 4 ∧ (8 : BitVec 4).toNat ≤ 8 ∧ (12 : BitVec 4).toNat ≤ 12 ∧
    (∃ t, exec (.m3X86T 12) (operands 1 2 3 4) = .next t) ∧ (∃ t, exec (.m3X64T 8) (operands 1 2 3 4) = .next t) ∧
    (∃ t, exec (.m3X32T 0) (operands 1 2 3 4) = .next t) :=
  ⟨by decide, by decide, by decide, by decide, ⟨_, rfl⟩, ⟨_, rfl⟩, ⟨_, rfl⟩⟩

theorem witness_BandsMonotone :
    Instr.ldmuxC32 ∈ [Instr.ldmuxC32, .ldmuxC64, .ldmuxC128S, .ldmuxCMur, .ldmuxC128U] ∧
    Instr.ldmuxC128U ∈ [Instr.ldmuxC32, .ldmuxC64, .ldmuxC128S, .ldmuxCMur, .ldmuxC128U] ∧
    (operands 4).captured.x0.toNat ≤ (operands 5).captured.x0.toNat ∧
    (∃ t, exec .ldmuxC32 (operands 4) = .next t) ∧ (∃ t, exec .ldmuxC32 (operands 5) = .next t) ∧
    (∃ t, exec .ldmuxC128U (operands 5) = .next t) :=
  ⟨by decide, by decide, by decide, ⟨_, rfl⟩, ⟨_, rfl⟩, ⟨_, rfl⟩⟩

/-- The last block of 32 bytes, for each mode. -/
theorem witness_BlocksCoverInput :
    (Instr.ldmuxM32, 4) ∈ [(Instr.ldmuxM32, 4), (.ldmuxM86, 16), (.ldmuxM64, 16)] ∧
    (Instr.ldmuxM64, 16) ∈ [(Instr.ldmuxM32, 4), (.ldmuxM86, 16), (.ldmuxM64, 16)] ∧
    (∃ t, exec .ldmuxM32 (operands 32) = .next t ∧ 7 < t.y1.toNat) ∧
    (∃ t, exec .ldmuxM86 (operands 32) = .next t ∧ 1 < t.y1.toNat) ∧
    (∃ t, exec .ldmuxM64 (operands 32) = .next t ∧ 1 < t.y1.toNat) :=
  ⟨by decide, by decide, ⟨_, rfl, by decide⟩, ⟨_, rfl, by decide⟩, ⟨_, rfl, by decide⟩⟩

/-- Each clause at its boundary, on the three bytes of `"abc"` and on the first eight bytes of the descriptor. -/
theorem witness_FetchesStayInside :
    2 < abc.length ∧ abc.length ≤ 3 ∧ 0 + 4 ≤ (descriptor.take 4).length ∧ (descriptor.take 4).length < 1 + 4 ∧
    0 + 8 ≤ (descriptor.take 8).length ∧ (descriptor.take 8).length < 1 + 8 := by decide

theorem witness_TailCommandFromLdmux :
    (∃ t, exec .ldmuxM32 (operands 31) = .next t ∧ tailCommand (.m3X32T 0) t.y0 = 0x314) ∧
    (∃ t, exec .ldmuxM86 (operands 31) = .next t ∧ tailCommand (.m3X86T 0) t.y0 = 0xf34) ∧
    (∃ t, exec .ldmuxM64 (operands 31) = .next t ∧ tailCommand (.m3X64T 0) t.y0 = 0xf54) :=
  ⟨⟨_, rfl, by decide⟩, ⟨_, rfl, by decide⟩, ⟨_, rfl, by decide⟩⟩

theorem witness_MurmurSequencesArePure : descriptor.length < 2 ^ 64 ∧ done.sawReset = true := by decide

theorem witness_EmptyInputDigests : (completing fmixRequest).sawReset = true ∧ doneIllegal.sawReset = true := by decide

theorem witness_CitySequencesArePure :
    State.reset.sawReset = true ∧ doneIllegal.sawReset = true ∧ State.reset.params = doneIllegal.params ∧
    (digestOf (cityHash64 .noneChosen abc)).isSome = true := by decide

/-- A chunk that ends where the input ends. -/
theorem witness_HalfStepRecomputesPairs : done.sawReset = true ∧ 0 + 64 ≤ vectorChunk.length := by decide

theorem witness_BuildNeverChanges :
    (∃ t, step done = .next t) ∧ (∃ t, step (completing fmixRequest) = .next t) ∧
    (∃ t, transact fmixRequest done = .next t) := ⟨⟨_, rfl⟩, ⟨_, rfl⟩, ⟨_, rfl⟩⟩

end Sys2Proof.Tests
end

section
namespace Sys2Proof.Machine

/-! ## The reset state and the refused read (spec/10_state.md R23, R24) -/

/-- The read that spec/10_state.md R24 refuses: the answer does not depend on what `Y` holds. -/
theorem State.readResponse_of_not_valid {s : State} (hreset : s.sawReset = true) (hvalid : s.status.valid = false) :
    s.readResponse = .refused .responseNotValid := by
  simp [State.readResponse, hreset, hvalid]

@[simp] theorem State.reset_status : State.reset.status = statusReset := rfl
@[simp] theorem State.reset_busy : State.reset.busy = false := rfl
@[simp] theorem State.reset_sawReset : State.reset.sawReset = true := rfl

/-- Settles O15: `STATUS` and `BUSY` stand at their reset values, and the read is refused because `VALID` is 0 in a
block that has been reset, whatever `Y` holds. -/
theorem resetValues : Obligations.ResetValues := by
  have hvalid : State.reset.status.valid = false := by simp
  have hrefused := State.readResponse_of_not_valid State.reset_sawReset hvalid
  exact ⟨hvalid, by simp, by simp, State.reset_busy, hrefused⟩

end Sys2Proof.Machine
end

section
namespace Sys2Proof.Machine

/-! ## The host's fetches (spec/20_memory.md R27 to R29) -/

/-- One byte below a value: the byte is the least significant digit in base 256 (R27). -/
theorem append_byte_toNat {w : Nat} (v : BitVec w) (b : Byte) : (v ++ b).toNat = v.toNat * 2 ^ 8 + b.toNat := by
  rw [BitVec.toNat_append, Nat.shiftLeft_eq, Nat.mul_comm, Nat.two_pow_add_eq_or_of_lt b.isLt]

theorem le32_toNat (b : Nat → Byte) :
    (le32 (b 0) (b 1) (b 2) (b 3)).toNat = ((List.range 4).map fun j => (b j).toNat * 2 ^ (8 * j)).sum := by
  simp only [le32, append_byte_toNat, List.range_succ, List.range_zero, List.map_append, List.map_cons, List.map_nil,
    List.sum_append, List.sum_cons, List.sum_nil]
  omega

theorem le64_toNat (b : Nat → Byte) :
    (le64 (b 0) (b 1) (b 2) (b 3) (b 4) (b 5) (b 6) (b 7)).toNat =
      ((List.range 8).map fun j => (b j).toNat * 2 ^ (8 * j)).sum := by
  simp only [le64, append_byte_toNat, List.range_succ, List.range_zero, List.map_append, List.map_cons, List.map_nil,
    List.sum_append, List.sum_cons, List.sum_nil]
  omega

/-- The read every fetch makes, inside the input; outside it is `List.getElem?_eq_none`. -/
theorem input_byte_inside {B : List Byte} {off : Nat} (h : off < B.length) : B[off]? = some (B.getD off 0) := by
  rw [List.getD_eq_getElem B 0 h, List.getElem?_eq_getElem h]

theorem fetchByte_inside {B : List Byte} {off : Nat} (h : off < B.length) : fetchByte B off = .next (B.getD off 0) := by
  simp only [fetchByte, input_byte_inside h]

theorem fetchByte_outside {B : List Byte} {off : Nat} (h : B.length ≤ off) :
    fetchByte B off = .fault .fetchOutOfRange := by
  simp only [fetchByte, List.getElem?_eq_none h]

theorem fetch32_inside {B : List Byte} {off : Nat} (h : off + 4 ≤ B.length) :
    fetch32 B off = .next (le32 (B.getD off 0) (B.getD (off + 1) 0) (B.getD (off + 2) 0) (B.getD (off + 3) 0)) := by
  have hbyte (j : Nat) (hj : j < 4) := input_byte_inside (B := B) (off := off + j) (by omega)
  simp only [fetch32, input_byte_inside (show off < B.length by omega), hbyte 1, hbyte 2, hbyte 3, Nat.reduceLT]

/-- The last byte alone decides: the bytes below it may be there. -/
theorem fetch32_outside {B : List Byte} {off : Nat} (h : B.length < off + 4) :
    fetch32 B off = .fault .fetchOutOfRange := by
  have hlast : B[off + 3]? = none := List.getElem?_eq_none (by omega)
  unfold fetch32
  split
  · next hsome => simp [hlast] at hsome
  · rfl

theorem fetch64_inside {B : List Byte} {off : Nat} (h : off + 8 ≤ B.length) :
    fetch64 B off = .next (le64 (B.getD off 0) (B.getD (off + 1) 0) (B.getD (off + 2) 0) (B.getD (off + 3) 0)
      (B.getD (off + 4) 0) (B.getD (off + 5) 0) (B.getD (off + 6) 0) (B.getD (off + 7) 0)) := by
  have hbyte (j : Nat) (hj : j < 8) := input_byte_inside (B := B) (off := off + j) (by omega)
  simp only [fetch64, input_byte_inside (show off < B.length by omega), hbyte 1, hbyte 2, hbyte 3, hbyte 4, hbyte 5,
    hbyte 6, hbyte 7, Nat.reduceLT]

theorem fetch64_outside {B : List Byte} {off : Nat} (h : B.length < off + 8) :
    fetch64 B off = .fault .fetchOutOfRange := by
  have hlast : B[off + 7]? = none := List.getElem?_eq_none (by omega)
  unfold fetch64
  split
  · next hsome => simp [hlast] at hsome
  · rfl

/-- Settles O53: inside the input each fetch packs the bytes it reads, whose little-endian value is the sum of the
statement; outside it the last byte is missing. -/
theorem fetchesStayInside : Obligations.FetchesStayInside := by
  intro B off
  have hvalue32 := le32_toNat fun j => B.getD (off + j) 0
  have hvalue64 := le64_toNat fun j => B.getD (off + j) 0
  exact ⟨fetchByte_inside, fetchByte_outside, fun h => ⟨_, fetch32_inside h, hvalue32⟩, fetch32_outside,
    fun h => ⟨_, fetch64_inside h, hvalue64⟩, fetch64_outside⟩

end Sys2Proof.Machine
end

section
namespace Sys2Proof

/-! ## The fields of a command word as numbers (spec/30_encoding.md R35) -/

theorem unitField_toNat (c : Word32) : (unitField c).toNat = c.toNat % 16 := by
  simp [unitField]

theorem modeField_toNat (c : Word32) : (modeField c).toNat = c.toNat / 16 % 16 := by
  simp [modeField, Nat.shiftRight_eq_div_pow]

theorem remField_toNat (c : Word32) : (remField c).toNat = c.toNat / 256 % 16 := by
  simp [remField, Nat.shiftRight_eq_div_pow]

/-- RSV is all that stands above bit 11, so nothing of the quotient is cut off. -/
theorem rsvField_toNat (c : Word32) : (rsvField c).toNat = c.toNat / 4096 := by
  simp only [rsvField, BitVec.extractLsb'_toNat, Nat.shiftRight_eq_div_pow]
  omega

/-! ## The decoder, one lemma per outcome (spec/30_encoding.md R43) -/

theorem isTailMode_eq_false_iff {unit mode : Nat} :
    isTailMode unit mode = false ↔ ¬(unit = 4 ∧ (mode = 1 ∨ mode = 3 ∨ mode = 5)) := by
  simp [isTailMode, ← Bool.not_eq_true, or_assoc]

/-- The opcode map has a row for every mode that `NMODES` counts, so the decoder's last branch is never taken
(spec/30_encoding.md R39). -/
theorem exists_operationOf {unit mode : Nat} (rem : BitVec 4) (hunit : unit ≤ 7) (hmode : mode < nmodes unit) :
    ∃ i, operationOf unit mode rem = some i := by
  interval_cases unit
  all_goals
    simp only [nmodes, List.getD_cons_zero, List.getD_cons_succ] at hmode
    interval_cases mode <;> exact ⟨_, rfl⟩

/-- The field conditions of R43, for a word whose unit and mode are legal. -/
def FieldIllegal (unit mode rem rsv : Nat) : Prop :=
  rsv ≠ 0 ∨ (¬(unit = 4 ∧ (mode = 1 ∨ mode = 3 ∨ mode = 5)) ∧ rem ≠ 0) ∨ (unit = 4 ∧ mode = 1 ∧ 4 ≤ rem)

/-- The same conditions as the decoder tests them, on the fields of the word. -/
theorem fieldIllegal_iff {c : Word32} :
    FieldIllegal (unitField c).toNat (modeField c).toNat (remField c).toNat (rsvField c).toNat ↔
      rsvField c ≠ 0 ∨
      (isTailMode (unitField c).toNat (modeField c).toNat = false ∧ remField c ≠ 0) ∨
      ((unitField c).toNat = 4 ∧ (modeField c).toNat = 1 ∧ 4 ≤ (remField c).toNat) := by
  simp [FieldIllegal, isTailMode_eq_false_iff, BitVec.toNat_eq]

theorem decode_of_unit_illegal {c : Word32} (hunit : 8 ≤ (unitField c).toNat) :
    decode c = .error .illegalUnit := by
  simp only [decode, hunit, if_true]

theorem decode_of_mode_illegal {c : Word32} (hunit : (unitField c).toNat ≤ 7)
    (hmode : nmodes (unitField c).toNat ≤ (modeField c).toNat) : decode c = .error .illegalMode := by
  have hnotUnit : ¬8 ≤ (unitField c).toNat := by omega
  simp only [decode, hnotUnit, hmode, if_true, if_false]

theorem decode_of_field_illegal {c : Word32} (hunit : (unitField c).toNat ≤ 7)
    (hmode : (modeField c).toNat < nmodes (unitField c).toNat)
    (hfield : FieldIllegal (unitField c).toNat (modeField c).toNat (remField c).toNat (rsvField c).toNat) :
    decode c = .error .illegalField := by
  have hnotUnit : ¬8 ≤ (unitField c).toNat := by omega
  simp only [decode, hnotUnit, not_le.mpr hmode, if_false]
  by_cases hrsv : rsvField c ≠ 0
  · rw [if_pos hrsv]
  by_cases hrem : isTailMode (unitField c).toNat (modeField c).toNat = false ∧ remField c ≠ 0
  · rw [if_neg hrsv, if_pos hrem]
  have hlimit := ((fieldIllegal_iff.mp hfield).resolve_left hrsv).resolve_left hrem
  rw [if_neg hrsv, if_neg hrem, if_pos hlimit]

theorem decode_of_legal {c : Word32} (hunit : (unitField c).toNat ≤ 7)
    (hmode : (modeField c).toNat < nmodes (unitField c).toNat)
    (hfield : ¬FieldIllegal (unitField c).toNat (modeField c).toNat (remField c).toNat (rsvField c).toNat) :
    ∃ i, decode c = .ok i := by
  have hnotUnit : ¬8 ≤ (unitField c).toNat := by omega
  obtain ⟨i, hi⟩ := exists_operationOf (remField c) hunit hmode
  obtain ⟨hrsv, hrem, hlimit⟩ : _ ∧ _ ∧ _ := by simpa only [fieldIllegal_iff, not_or] using hfield
  exact ⟨i, by simp only [decode, hnotUnit, not_le.mpr hmode, hrsv, hrem, hlimit, hi, if_false]⟩

/-- The four ways a word can answer, told apart by its fields: one of the lemmas above applies to every word, and its
answer is none of the other three. -/
theorem decode_outcome_iff (c : Word32) :
    let unit := (unitField c).toNat
    let mode := (modeField c).toNat
    let fieldIllegal := FieldIllegal unit mode (remField c).toNat (rsvField c).toNat
    (decode c = .error .illegalUnit ↔ 8 ≤ unit) ∧
    (decode c = .error .illegalMode ↔ unit ≤ 7 ∧ nmodes unit ≤ mode) ∧
    (decode c = .error .illegalField ↔ unit ≤ 7 ∧ mode < nmodes unit ∧ fieldIllegal) ∧
    ((∃ i, decode c = .ok i) ↔ unit ≤ 7 ∧ mode < nmodes unit ∧ ¬fieldIllegal) := by
  intro unit mode fieldIllegal
  rcases Nat.lt_or_ge 7 unit with hunit | hunit
  · have hnotUnit : ¬unit ≤ 7 := by omega
    simp [decode_of_unit_illegal hunit, hnotUnit, Nat.succ_le_of_lt hunit]
  have hnotUnit : ¬8 ≤ unit := by omega
  rcases Nat.lt_or_ge mode (nmodes unit) with hmode | hmode
  · by_cases hfield : fieldIllegal
    · simp [decode_of_field_illegal hunit hmode hfield, hnotUnit, hunit, hmode, hfield]
    · obtain ⟨i, hi⟩ := decode_of_legal hunit hmode hfield
      simp [hi, hnotUnit, hunit, hmode, hfield]
  · simp [decode_of_mode_illegal hunit hmode, hnotUnit, hunit, hmode]

/-- Settles O4: the decoder's outcomes, with the fields read as numbers. -/
theorem illegalWordCauses : Obligations.IllegalWordCauses := by
  intro c
  have houtcome := decode_outcome_iff c
  rw [unitField_toNat, modeField_toNat, remField_toNat, rsvField_toNat] at houtcome
  exact houtcome

end Sys2Proof
end

section
namespace Sys2Proof.Machine

/-! ## HMIX32 (spec/40_hmix32.md R55) -/

theorem exec_hmix32 (s : State) :
    exec .hmix32 s = .next (s.respond (zext64 (hmix32 (lo32 s.captured.x0) (lo32 s.captured.x1))) 0) := rfl

/-- A completion is the answer that the statements about the units write out (spec/10_state.md R12 to R14). -/
theorem answers_of_exec_eq_respond {i : Instr} {s : State} {y0 y1 : Word64} (h : exec i s = .next (s.respond y0 y1)) :
    Answers i s y0 y1 := h

/-- R55 with its two rotates and its three constants written out. -/
theorem hmix32_eq (a h : Word32) :
    hmix32 a h =
      let a1 := a * 0xcc9e2d51
      let a2 := (a1 >>> 17) ||| (a1 <<< 15)
      let h1 := h ^^^ (a2 * 0x1b873593)
      let h2 := (h1 >>> 19) ||| (h1 <<< 13)
      h2 * 5 + 0xe6546b64 := by
  simp only [hmix32, c1, c2, n32, BitVec.rotateRight_def, Nat.reduceMod, Nat.reduceSub]

/-- Settles O30: the encoder packs four zero fields, and the answer is the completion with `hmix32`, its rotates
written out as shifts. -/
theorem hmix32Result : Obligations.Hmix32Result := by
  refine ⟨by decide, fun s => answers_of_exec_eq_respond ?_⟩
  rw [exec_hmix32, hmix32_eq]
  rfl

end Sys2Proof.Machine
end

section
namespace Sys2Proof.Machine

/-! ## HMIX64 (spec/41_hmix64.md R58) -/

theorem exec_hmix64Instr (m : Fin 6) (s : State) :
    exec (hmix64Instr m) s = .next (s.respond (hmix64 m s.captured.x0) 0) := by
  fin_cases m <;> rfl

/-- The six words differ in MODE alone (spec/30_encoding.md R39). -/
theorem encode_hmix64Instr (m : Fin 6) : encode (hmix64Instr m) = BitVec.ofNat 32 (1 + 16 * m) := by
  revert m
  decide

/-- R58 for every mode at once: the shift-xor times the entry of `KTAB` (spec/10_state.md R17). -/
theorem hmix64Instr_answers (m : Fin 6) (s : State) :
    Answers (hmix64Instr m) s ((s.captured.x0 ^^^ (s.captured.x0 >>> 47)) * ktab m) 0 :=
  answers_of_exec_eq_respond (exec_hmix64Instr m s)

/-- Mode `.S` multiplies by 1, so it is the bare shift-xor (R59). -/
theorem hmix64S_answers (s : State) :
    Answers .hmix64S s (s.captured.x0 ^^^ (s.captured.x0 >>> 47)) 0 := by
  have hone : ktab 0 = 1#64 := rfl
  have h := hmix64Instr_answers 0 s
  rwa [hone, BitVec.mul_one] at h

/-- Settles O31: the rule of all six modes, read at each mode; `KTAB` gives the six constants. -/
theorem hmix64Results : Obligations.Hmix64Results :=
  ⟨encode_hmix64Instr 0, encode_hmix64Instr 1, encode_hmix64Instr 2, encode_hmix64Instr 3, encode_hmix64Instr 4,
    encode_hmix64Instr 5, fun s =>
      ⟨hmix64S_answers s, hmix64Instr_answers 1 s, hmix64Instr_answers 2 s, hmix64Instr_answers 3 s,
        hmix64Instr_answers 4 s, hmix64Instr_answers 5 s⟩⟩

end Sys2Proof.Machine
end

section
namespace Sys2Proof.Machine

/-! ## HL16 (spec/42_hl16.md R62) -/

theorem exec_hl16 (s : State) : exec .hl16 s = .next (s.respond (hl16 s.captured.x0 s.captured.x1) 0) := rfl

/-- R62 with its two shift-xors and its three multiplications by `KMUL` written out. -/
theorem hl16_eq (u v : Word64) :
    hl16 u v =
      let a := (u ^^^ v) * 0x9ddfea08eb382d69
      let b := (v ^^^ (a ^^^ (a >>> 47))) * 0x9ddfea08eb382d69
      (b ^^^ (b >>> 47)) * 0x9ddfea08eb382d69 := by
  simp only [hl16, shiftMix, kmul]

/-- Settles O32: the encoder puts 2 in UNIT and zero in the other fields, and the answer is the completion with `hl16`,
its rounds written out over the captured `X[0]` and `X[1]`. -/
theorem hl16Result : Obligations.Hl16Result := by
  refine ⟨by decide, fun s => answers_of_exec_eq_respond ?_⟩
  rw [exec_hl16, hl16_eq]

end Sys2Proof.Machine
end

section
namespace Sys2Proof.Machine

/-! ## WH32 (spec/43_wh32.md R65) -/

theorem exec_wh32 (s : State) :
    exec .wh32 s =
      .next (s.respond
        (weakHash0 s.captured.x0 s.captured.x1 s.captured.x2 s.captured.x3 s.captured.x4)
        (weakHash1 s.params.whRot1 s.params.whRot2 s.captured.x0 s.captured.x1 s.captured.x2 s.captured.x3
          s.captured.x4 s.captured.x5)) := rfl

/-- R7's right rotate: an amount below the width is not reduced, so it is the amount of both shifts. -/
theorem rotateRight_eq_shifts {n r : Nat} (v : BitVec n) (hr : r < n) :
    v.rotateRight r = (v >>> r) ||| (v <<< (n - r)) := by
  rw [BitVec.rotateRight_def, Nat.mod_eq_of_lt hr]

/-- R65's second word with both rotates written out; its first word `weakHash0` has none. -/
theorem weakHash1_eq {rot1 rot2 : Nat} (hrot1 : rot1 < 64) (hrot2 : rot2 < 64) (w x y z a b : Word64) :
    weakHash1 rot1 rot2 w x y z a b =
      let a1 := a + w
      let sum := b + a1 + z
      let a3 := a1 + x + y
      (((sum >>> rot1) ||| (sum <<< (64 - rot1))) + ((a3 >>> rot2) ||| (a3 <<< (64 - rot2)))) + a1 := by
  simp only [weakHash1, rotateRight_eq_shifts _ hrot1, rotateRight_eq_shifts _ hrot2]

/-- Settles O33: the encoder puts 3 in UNIT and zero in the other fields, and the answer is the completion with the
pair of R65. Only the upper bounds on the amounts are used: below 64 the block's rotates are R7's. -/
theorem wh32Result : Obligations.Wh32Result := by
  refine ⟨by decide, fun s => ?_⟩
  intro rot1 rot2 _ hrot1 _ hrot2
  refine answers_of_exec_eq_respond ?_
  rw [exec_wh32, weakHash1_eq hrot1 hrot2]
  rfl

end Sys2Proof.Machine
end

section
namespace Sys2Proof.Machine

/-! ## What the six operations of unit 4 share: their words, their rotates, their tails (spec/44_m3mix.md R69) -/

/-- R7's left rotate: an amount below the width is not reduced, so it is the amount of both shifts. -/
theorem rotateLeft_eq_shifts {n r : Nat} (v : BitVec n) (hr : r < n) :
    v.rotateLeft r = (v <<< r) ||| (v >>> (n - r)) := by
  rw [BitVec.rotateLeft_def, Nat.mod_eq_of_lt hr]

/-- A command word as a number, from its fields: each has its power of two, and RSV is zero (spec/30_encoding.md R35). -/
theorem encode_toNat_of_fields {i : Instr} (h : Laws.EncodedFields.Statement i) :
    (encode i).toNat = i.unit.toNat + 16 * i.mode.toNat + 256 * i.rem.toNat := by
  obtain ⟨hunit, hmode, hrem, hrsv⟩ := h
  have hrsv0 : (encode i).toNat / 4096 = 0 := by rw [← rsvField_toNat, hrsv]; rfl
  rw [← hunit, ← hmode, ← hrem, unitField_toNat, modeField_toNat, remField_toNat]
  omega

/-- The 32-bit tail as a number: below 4 bytes the mask cuts inside the low half, so it cuts the whole field
(spec/44_m3mix.md R71). -/
theorem maskBytes_lo32_eq_ofNat (v : Word64) {r : Nat} (hr : r < 4) :
    maskBytes (lo32 v) r = BitVec.ofNat 32 (v.toNat % 2 ^ (8 * r)) := by
  have hdvd : 2 ^ (8 * r) ∣ 2 ^ 32 := Nat.pow_dvd_pow 2 (by omega)
  have hlow : (lo32 v).toNat = v.toNat % 2 ^ 32 := BitVec.extractLsb'_toNat ..
  rw [← BitVec.toNat_inj, maskBytes_toNat _ _ (by omega), hlow, BitVec.toNat_ofNat, Nat.mod_mod_of_dvd _ hdvd]
  exact (Nat.mod_eq_of_lt ((Nat.mod_lt _ (Nat.two_pow_pos _)).trans_le (Nat.le_of_dvd (by decide) hdvd))).symm

/-- The 128-bit tail as a number, for every REM (spec/44_m3mix.md R75, R79). -/
theorem tail128_toNat (r : Request) (rem : BitVec 4) :
    (tail128 r rem).toNat = (r.x3.toNat * 2 ^ 64 + r.x2.toNat) % 2 ^ (8 * rem.toNat) := by
  have hrem : rem.toNat < 16 := rem.isLt
  rw [tail128, maskBytes_toNat _ _ (by omega), BitVec.toNat_append, ← Nat.shiftLeft_add_eq_or_of_lt r.x2.isLt,
    Nat.shiftLeft_eq]

/-- The lane of `w` bits of the tail that begins at bit `i`, as a number (spec/44_m3mix.md R69). -/
theorem tail128_lane (r : Request) (rem : BitVec 4) (i w : Nat) :
    (tail128 r rem).extractLsb' i w =
      BitVec.ofNat w ((r.x3.toNat * 2 ^ 64 + r.x2.toNat) % 2 ^ (8 * rem.toNat) / 2 ^ i) := by
  rw [← tail128_toNat, ← Nat.shiftRight_eq_div_pow]
  rfl

end Sys2Proof.Machine
end

section
namespace Sys2Proof.Machine

/-! ## M3.X32.B and M3.X32.T (spec/44_m3mix.md R70, R71) -/

theorem exec_m3X32B (s : State) :
    exec .m3X32B s = .next (s.respond (zext64 (m3X32Body (lo32 s.captured.x0) (lo32 s.captured.x2))) 0) := rfl

theorem exec_m3X32T_of_lt {rem : BitVec 4} (hrem : rem.toNat < 4) (s : State) :
    exec (.m3X32T rem) s =
      .next (s.respond (zext64 (m3X32Tail rem (lo32 s.captured.x0) (lo32 s.captured.x2))) 0) :=
  if_pos hrem

/-- The multiply-rotate-multiply of R70 and R71 with its rotate written out. -/
theorem kmX32_eq (k : Word32) :
    kmX32 k =
      let k1 := k * 0xcc9e2d51
      ((k1 <<< 15) ||| (k1 >>> 17)) * 0x1b873593 := by
  rw [kmX32, rotateLeft_eq_shifts _ (by decide)]
  rfl

/-- R70 with both rotates written out. -/
theorem m3X32Body_eq (h k : Word32) :
    m3X32Body h k =
      let k1 := k * 0xcc9e2d51
      let h1 := h ^^^ (((k1 <<< 15) ||| (k1 >>> 17)) * 0x1b873593)
      ((h1 <<< 13) ||| (h1 >>> 19)) * 5 + 0xe6546b64 := by
  rw [m3X32Body, rotateLeft_eq_shifts _ (by decide), kmX32_eq]
  rfl

/-- R71 with its rotate written out and the tail as a number. -/
theorem m3X32Tail_eq {rem : BitVec 4} (hrem : rem.toNat < 4) (h : Word32) (x2 : Word64) :
    m3X32Tail rem h (lo32 x2) =
      let k1 := BitVec.ofNat 32 (x2.toNat % 2 ^ (8 * rem.toNat)) * 0xcc9e2d51
      h ^^^ (((k1 <<< 15) ||| (k1 >>> 17)) * 0x1b873593) := by
  rw [m3X32Tail, maskBytes_lo32_eq_ofNat x2 hrem, kmX32_eq]

/-- A tail of 4 bytes or more is a field error of M3.X32.T: unit and mode are legal, REM is not
(spec/30_encoding.md R43). -/
theorem decode_encode_m3X32T_of_le {rem : BitVec 4} (hrem : 4 ≤ rem.toNat) :
    decode (encode (.m3X32T rem)) = .error .illegalField := by
  obtain ⟨hunit, hmode, hremField, hrsv⟩ := Laws.EncodedFields.m3X32T rem
  apply decode_of_field_illegal
  · rw [hunit]
    exact (by decide : 4 ≤ 7)
  · rw [hunit, hmode]
    exact (by decide : 1 < nmodes 4)
  · rw [hunit, hmode, hremField, hrsv]
    exact .inr (.inr ⟨rfl, rfl, hrem⟩)

/-- Settles O34: the four fields make the word, and the answer is the completion with the block mix of R70, its rotates
written out as shifts. -/
theorem m3X32BResult : Obligations.M3X32BResult := by
  refine ⟨by decide, fun s => answers_of_exec_eq_respond ?_⟩
  rw [exec_m3X32B, m3X32Body_eq]
  rfl

/-- Settles O35: below 4 bytes the answer is the completion with the tail mix of R71, from 4 bytes on the decoder finds
the word illegal. -/
theorem m3X32TResult : Obligations.M3X32TResult := by
  refine ⟨fun rem => encode_toNat_of_fields (Laws.EncodedFields.m3X32T rem), fun s rem =>
    ⟨fun hrem => answers_of_exec_eq_respond ?_, decode_encode_m3X32T_of_le⟩⟩
  rw [exec_m3X32T_of_lt hrem, m3X32Tail_eq hrem]
  rfl

end Sys2Proof.Machine
end

section
namespace Sys2Proof.Machine

/-! ## M3.X86.B and M3.X86.T (spec/44_m3mix.md R72 to R75) -/

/-- R74 in the order of R73: each lane adds the next lane as it then stands, so lane 4 adds the new lane 1. -/
theorem exec_m3X86B (s : State) :
    exec .m3X86B s =
      let r := s.captured
      let h1 := laneX86 (lo32 r.x0) (km1 (lo32 r.x2)) 19 (hi32 r.x0) x86N1
      let h2 := laneX86 (hi32 r.x0) (km2 (hi32 r.x2)) 17 (lo32 r.x1) x86N2
      let h3 := laneX86 (lo32 r.x1) (km3 (lo32 r.x3)) 15 (hi32 r.x1) x86N3
      let h4 := laneX86 (hi32 r.x1) (km4 (hi32 r.x3)) 13 h1 x86N4
      .next (s.respond (pack h2 h1) (pack h4 h3)) := rfl

theorem exec_m3X86T (rem : BitVec 4) (s : State) :
    exec (.m3X86T rem) s =
      let r := s.captured
      let t := tail128 r rem
      let h1 := lo32 r.x0 ^^^ km1 (t.extractLsb' 0 32)
      let h2 := hi32 r.x0 ^^^ km2 (t.extractLsb' 32 32)
      let h3 := lo32 r.x1 ^^^ km3 (t.extractLsb' 64 32)
      let h4 := hi32 r.x1 ^^^ km4 (t.extractLsb' 96 32)
      .next (s.respond (pack h2 h1) (pack h4 h3)) := rfl

/-! The four lane mixes of R72, each with its rotate and its two constants written out. -/

theorem km1_eq (k : Word32) :
    km1 k = (((k * 0x239b961b) <<< 15) ||| ((k * 0x239b961b) >>> (32 - 15))) * 0xab0e9789 :=
  congrArg (· * x86C2) (rotateLeft_eq_shifts (k * x86C1) (by decide))

theorem km2_eq (k : Word32) :
    km2 k = (((k * 0xab0e9789) <<< 16) ||| ((k * 0xab0e9789) >>> (32 - 16))) * 0x38b34ae5 :=
  congrArg (· * x86C3) (rotateLeft_eq_shifts (k * x86C2) (by decide))

theorem km3_eq (k : Word32) :
    km3 k = (((k * 0x38b34ae5) <<< 17) ||| ((k * 0x38b34ae5) >>> (32 - 17))) * 0xa1e38b93 :=
  congrArg (· * x86C4) (rotateLeft_eq_shifts (k * x86C3) (by decide))

theorem km4_eq (k : Word32) :
    km4 k = (((k * 0xa1e38b93) <<< 18) ||| ((k * 0xa1e38b93) >>> (32 - 18))) * 0x239b961b :=
  congrArg (· * x86C1) (rotateLeft_eq_shifts (k * x86C4) (by decide))

/-- The lane update of R74 with its rotate written out, for every amount below 32. -/
theorem laneX86_eq {rot : Nat} (hrot : rot < 32) (h km next n : Word32) :
    laneX86 h km rot next n = ((((h ^^^ km) <<< rot) ||| ((h ^^^ km) >>> (32 - rot))) + next) * 5 + n := by
  rw [laneX86, rotateLeft_eq_shifts _ hrot]

/-- Settles O36: the four fields make the word, and the answer is the completion with the four lanes of R74, every
rotate written out. -/
theorem m3X86BResult : Obligations.M3X86BResult := by
  refine ⟨by decide, fun s => answers_of_exec_eq_respond ?_⟩
  simp only [exec_m3X86B, laneX86_eq, Nat.reduceLT, km1_eq, km2_eq, km3_eq, km4_eq]
  rfl

/-- Settles O37: the answer is the completion with the four lanes of R75, each mixed with its four bytes of the tail as
a number. -/
theorem m3X86TResult : Obligations.M3X86TResult := by
  refine ⟨fun rem => encode_toNat_of_fields (Laws.EncodedFields.m3X86T rem), fun s rem =>
    answers_of_exec_eq_respond ?_⟩
  simp only [exec_m3X86T, tail128_lane, km1_eq, km2_eq, km3_eq, km4_eq, pow_zero, Nat.div_one]
  rfl

end Sys2Proof.Machine
end

section
namespace Sys2Proof.Machine

/-! ## M3.X64.B and M3.X64.T (spec/44_m3mix.md R76 to R79) -/

/-- R78 in the order of R77: lane 1 adds the old lane 2, lane 2 the new lane 1. -/
theorem exec_m3X64B (s : State) :
    exec .m3X64B s =
      let r := s.captured
      let h1 := laneX64 r.x0 (qm1 r.x2) 27 r.x1 x64N1
      .next (s.respond h1 (laneX64 r.x1 (qm2 r.x3) 31 h1 x64N2)) := rfl

theorem exec_m3X64T (rem : BitVec 4) (s : State) :
    exec (.m3X64T rem) s =
      let t := tail128 s.captured rem
      .next (s.respond (s.captured.x0 ^^^ qm1 (t.extractLsb' 0 64)) (s.captured.x1 ^^^ qm2 (t.extractLsb' 64 64))) := rfl

/-! The two lane mixes of R76, each with its rotate and its two constants written out. -/

theorem qm1_eq (k : Word64) :
    qm1 k =
      (((k * 0x87c37b91114253d5) <<< 31) ||| ((k * 0x87c37b91114253d5) >>> (64 - 31))) * 0x4cf5ad432745937f :=
  congrArg (· * x64C2) (rotateLeft_eq_shifts (k * x64C1) (by decide))

theorem qm2_eq (k : Word64) :
    qm2 k =
      (((k * 0x4cf5ad432745937f) <<< 33) ||| ((k * 0x4cf5ad432745937f) >>> (64 - 33))) * 0x87c37b91114253d5 :=
  congrArg (· * x64C1) (rotateLeft_eq_shifts (k * x64C2) (by decide))

/-- The lane update of R78 with its rotate written out, for every amount below 64. -/
theorem laneX64_eq {rot : Nat} (hrot : rot < 64) (h qm next n : Word64) :
    laneX64 h qm rot next n = ((((h ^^^ qm) <<< rot) ||| ((h ^^^ qm) >>> (64 - rot))) + next) * 5 + n := by
  rw [laneX64, rotateLeft_eq_shifts _ hrot]

/-- Settles O38: the four fields make the word, and the answer is the completion with the two lanes of R78, every
rotate written out. -/
theorem m3X64BResult : Obligations.M3X64BResult := by
  refine ⟨by decide, fun s => answers_of_exec_eq_respond ?_⟩
  simp only [exec_m3X64B, laneX64_eq, Nat.reduceLT, qm1_eq, qm2_eq]
  rfl

/-- Settles O39: the answer is the completion with the two lanes of R79, each mixed with its eight bytes of the tail as
a number. -/
theorem m3X64TResult : Obligations.M3X64TResult := by
  refine ⟨fun rem => encode_toNat_of_fields (Laws.EncodedFields.m3X64T rem), fun s rem =>
    answers_of_exec_eq_respond ?_⟩
  simp only [exec_m3X64T, tail128_lane, qm1_eq, qm2_eq, pow_zero, Nat.div_one]

end Sys2Proof.Machine
end

section
namespace Sys2Proof.Machine

/-! ## FMIX32 and FMIX64 (spec/45_fmix.md R81, R82) -/

theorem exec_fmix32 (s : State) : exec .fmix32 s = .next (s.respond (zext64 (fmix32 (lo32 s.captured.x0))) 0) := rfl

theorem exec_fmix64 (s : State) : exec .fmix64 s = .next (s.respond (fmix64 s.captured.x0) 0) := rfl

/-- R81 with its two multipliers written out. -/
theorem fmix32_eq (h : Word32) :
    fmix32 h =
      let h1 := h ^^^ (h >>> 16)
      let h2 := h1 * 0x85ebca6b
      let h3 := h2 ^^^ (h2 >>> 13)
      let h4 := h3 * 0xc2b2ae35
      h4 ^^^ (h4 >>> 16) := by
  simp only [fmix32, f32M1, f32M2]

/-- R82 with its two multipliers written out. -/
theorem fmix64_eq (k : Word64) :
    fmix64 k =
      let k1 := k ^^^ (k >>> 33)
      let k2 := k1 * 0xff51afd7ed558ccd
      let k3 := k2 ^^^ (k2 >>> 33)
      let k4 := k3 * 0xc4ceb9fe1a85ec53
      k4 ^^^ (k4 >>> 33) := by
  simp only [fmix64, f64M1, f64M2]

/-- Settles O40: the encoder puts 5 in UNIT and zero in the other fields, and the answer is the completion with `fmix32`
of the low half of the captured `X[0]`, zero-extended. -/
theorem fmix32Result : Obligations.Fmix32Result := by
  refine ⟨by decide, fun s => answers_of_exec_eq_respond ?_⟩
  rw [exec_fmix32, fmix32_eq, lo32, zext64]

/-- Settles O41: the encoder puts 6 in UNIT and zero in the other fields, and the answer is the completion with `fmix64`
of the whole captured `X[0]`. -/
theorem fmix64Result : Obligations.Fmix64Result := by
  refine ⟨by decide, fun s => answers_of_exec_eq_respond ?_⟩
  rw [exec_fmix64, fmix64_eq]

end Sys2Proof.Machine
end

section
namespace Sys2Proof.Machine

/-! ## LDMUX.C32, .C64, .C128S, .CMUR, .C128U (spec/46_ldmux.md R86 to R90) -/

/-! The bands as numbers: the unit's unsigned 64-bit comparisons are those of the length. -/

theorem bandC32_eq (n : Word64) :
    bandC32 n =
      BitVec.ofNat 64 (if n.toNat ≤ 4 then 0 else if n.toNat ≤ 12 then 1 else if n.toNat ≤ 24 then 2 else 3) := by
  simp only [apply_ite (BitVec.ofNat 64)]
  rfl

theorem bandC64_eq (n : Word64) :
    bandC64 n =
      BitVec.ofNat 64 (if n.toNat ≤ 16 then 0 else if n.toNat ≤ 32 then 1 else if n.toNat ≤ 64 then 2 else 3) := by
  simp only [apply_ite (BitVec.ofNat 64)]
  rfl

theorem bandC128S_eq (n : Word64) : bandC128S n = BitVec.ofNat 64 (if n.toNat < 128 then 0 else 1) :=
  (apply_ite (BitVec.ofNat 64) ..).symm

theorem bandCMur_eq (n : Word64) : bandCMur n = BitVec.ofNat 64 (if n.toNat ≤ 16 then 0 else 1) :=
  (apply_ite (BitVec.ofNat 64) ..).symm

theorem bandC128U_eq (n : Word64) :
    bandC128U n = BitVec.ofNat 64 (if n.toNat < 8 then 0 else if n.toNat < 16 then 1 else 2) := by
  simp only [apply_ite (BitVec.ofNat 64)]
  rfl

theorem exec_ldmuxC32 (s : State) : exec .ldmuxC32 s = bandRespond (bandC32 s.captured.x0) s := rfl

theorem exec_ldmuxC64 (s : State) : exec .ldmuxC64 s = bandRespond (bandC64 s.captured.x0) s := rfl

theorem exec_ldmuxC128S (s : State) : exec .ldmuxC128S s = bandRespond (bandC128S s.captured.x0) s := rfl

theorem exec_ldmuxCMur (s : State) : exec .ldmuxCMur s = bandRespond (bandCMur s.captured.x0) s := rfl

theorem exec_ldmuxC128U (s : State) : exec .ldmuxC128U s = bandRespond (bandC128U s.captured.x0) s := rfl

/-- A band operation answers with its band and 0, the band read as a number `k` (spec/46_ldmux.md R85). -/
theorem answers_of_exec_eq_bandRespond {i : Instr} {s : State} {band : Word64} {k : Nat}
    (hexec : exec i s = bandRespond band s) (hband : band = BitVec.ofNat 64 k) :
    Answers i s (BitVec.ofNat 64 k) 0 :=
  answers_of_exec_eq_respond (hband ▸ hexec)

/-- Settles O42: the five words differ in MODE alone, and each operation answers with its band of the captured
`X[0]`. -/
theorem ldmuxBandResults : Obligations.LdmuxBandResults :=
  ⟨by decide, by decide, by decide, by decide, by decide, fun s =>
    ⟨answers_of_exec_eq_bandRespond (exec_ldmuxC32 s) (bandC32_eq _),
      answers_of_exec_eq_bandRespond (exec_ldmuxC64 s) (bandC64_eq _),
      answers_of_exec_eq_bandRespond (exec_ldmuxC128S s) (bandC128S_eq _),
      answers_of_exec_eq_bandRespond (exec_ldmuxCMur s) (bandCMur_eq _),
      answers_of_exec_eq_bandRespond (exec_ldmuxC128U s) (bandC128U_eq _)⟩⟩

end Sys2Proof.Machine
end

section
namespace Sys2Proof.Machine

/-! ## LDMUX.M32, .M86, .M64 (spec/46_ldmux.md R91 to R93) -/

theorem exec_ldmuxM32 (s : State) : exec .ldmuxM32 s = blocksRespond 2 s := rfl

theorem exec_ldmuxM86 (s : State) : exec .ldmuxM86 s = blocksRespond 4 s := rfl

theorem exec_ldmuxM64 (s : State) : exec .ldmuxM64 s = blocksRespond 4 s := rfl

/-- The low bits of the length are its remainder by the block size (spec/46_ldmux.md R91, R92). -/
theorem lowBits_eq_ofNat_mod (n : Word64) (bits : Nat) :
    (n.extractLsb' 0 bits).setWidth 64 = BitVec.ofNat 64 (n.toNat % 2 ^ bits) := by
  rw [← BitVec.toNat_inj, BitVec.toNat_setWidth, BitVec.extractLsb'_toNat, Nat.shiftRight_zero, BitVec.toNat_ofNat]

/-- A number of at most 8 bits beside its copy 8 places up: the two do not overlap, so the OR of R85 is a sum. -/
theorem ofNat_or_shiftLeft_eight {r : Nat} (hr : r < 2 ^ 8) :
    BitVec.ofNat 64 r ||| BitVec.ofNat 64 r <<< 8 = BitVec.ofNat 64 (r + 256 * r) := by
  have hr64 : (BitVec.ofNat 64 r).toNat = r := Nat.mod_eq_of_lt (hr.trans (by decide))
  have hshift : BitVec.ofNat 64 r <<< 8 = BitVec.ofNat 64 (r <<< 8) :=
    congrArg (fun m => BitVec.ofNat 64 (m <<< 8)) hr64
  rw [hshift, ← BitVec.ofNat_or, Nat.or_comm, ← Nat.shiftLeft_add_eq_or_of_lt hr, Nat.shiftLeft_eq, Nat.add_comm,
    Nat.mul_comm r]

theorem shiftRight_eq_ofNat_div (n : Word64) (bits : Nat) : n >>> bits = BitVec.ofNat 64 (n.toNat / 2 ^ bits) := by
  rw [← Nat.shiftRight_eq_div_pow, ← BitVec.toNat_ushiftRight, BitVec.ofNat_toNat, BitVec.setWidth_eq]

/-- The common completion of the three Murmur3 modes as numbers, for every block size whose remainder fits between bits
0 and 8 (spec/46_ldmux.md R85). -/
theorem blocksRespond_eq {bits : Nat} (hbits : bits ≤ 8) (s : State) :
    let n := s.captured.x0.toNat
    blocksRespond bits s =
      .next (s.respond (BitVec.ofNat 64 (n % 2 ^ bits + 256 * (n % 2 ^ bits))) (BitVec.ofNat 64 (n / 2 ^ bits))) := by
  intro n
  have hrem : n % 2 ^ bits < 2 ^ 8 :=
    (Nat.mod_lt _ (Nat.two_pow_pos _)).trans_le (Nat.pow_le_pow_right (by decide) hbits)
  simp only [blocksRespond, lowBits_eq_ofNat_mod, shiftRight_eq_ofNat_div]
  rw [ofNat_or_shiftLeft_eight hrem]

/-- Settles O43: each operation is the common completion, with blocks of 2 ^ 2 or 2 ^ 4 bytes. -/
theorem ldmuxBlockResults : Obligations.LdmuxBlockResults :=
  ⟨by decide, by decide, by decide, fun s =>
    ⟨answers_of_exec_eq_respond ((exec_ldmuxM32 s).trans (blocksRespond_eq (by decide) s)),
      answers_of_exec_eq_respond ((exec_ldmuxM86 s).trans (blocksRespond_eq (by decide) s)),
      answers_of_exec_eq_respond ((exec_ldmuxM64 s).trans (blocksRespond_eq (by decide) s))⟩⟩

end Sys2Proof.Machine
end

section
namespace Sys2Proof.Machine

/-! ## Completion without error (spec/60_exceptions.md R130) -/

/-- A well-formed operation completes as a legal one: of the two ways `exec` can answer, the field error is left to the
terms that are no operation of the block. -/
theorem exec_eq_respond_of_wellFormed {i : Instr} (s : State) (hwf : i.wellFormed = true) :
    ∃ y0 y1, exec i s = .next (s.respond y0 y1) := by
  obtain ⟨a, hanswer⟩ := exec_answers i s
  have hexec := hanswer s rfl rfl
  rcases exec_cases hexec with ⟨y0, y1, hrespond⟩ | ⟨hnotWf, _⟩
  · exact ⟨y0, y1, by rw [hexec, hrespond]⟩
  · simp [hwf] at hnotWf

/-- Settles O26: the completion of a legal operation writes `Y`, `STATUS` and `BUSY` and nothing else. -/
theorem noOperandCausesError : Obligations.NoOperandCausesError := by
  intro i s hwf
  obtain ⟨y0, y1, hexec⟩ := exec_eq_respond_of_wellFormed s hwf
  exact ⟨y0, y1, answers_of_exec_eq_respond hexec⟩

/-! ## The error response (spec/60_exceptions.md R133) -/

/-- The completing edge of a block that has been reset (spec/10_state.md R14, spec/70_reset_and_hazards.md R154). -/
theorem step_of_completing {s : State} (hlive : s.live) (hbusy : s.busy = true) (hwait : s.waitLeft = 0) :
    step s = completeCaptured s := by
  obtain ⟨hreset, hrst⟩ := hlive
  simp [step, clockEdge, busyEdge, hreset, hrst, hbusy, hwait]

/-- The accepting edge (spec/70_reset_and_hazards.md R147). -/
theorem step_of_presented {s : State} (hlive : s.live) (hready : s.busy = false) (hvalid : s.ports.reqValid = true) :
    step s = .next (s.accept s.ports.req) := by
  obtain ⟨hreset, hrst⟩ := hlive
  simp [step, clockEdge, hreset, hrst, hready, hvalid]

theorem completeCaptured_of_illegal {s : State} {c : IllegalCause} (hdecode : decode s.captured.cmd = .error c) :
    completeCaptured s = .next (s.takeIllegal c) := by
  simp [completeCaptured, hdecode]

/-- A block that is not busy and holds a response is in DONE (spec/10_state.md R19). -/
theorem State.phase_eq_done {s : State} (hready : s.busy = false) (hvalid : s.status.valid = true) :
    s.phase = some .done := by
  simp [State.phase, hready, hvalid]

/-- A block that has been reset and is not busy accepts whatever request is presented to it (spec/70_reset_and_hazards.md
R147), whether it holds a response or none. -/
theorem exists_acceptance_of_ready {s : State} (hreset : s.sawReset = true) (hready : s.busy = false) (q : Request) :
    ∃ u, step (s.drive ⟨false, true, q⟩) = .next u ∧ u.busy = true ∧ u.captured = q :=
  ⟨_, step_of_presented ⟨hreset, rfl⟩ hready rfl, rfl, rfl⟩

/-- Settles O11: the state written out is the one the error response leaves, and that one holds a valid response, is not
busy and has been reset, so it is in DONE and accepts. -/
theorem illegalCommandResponse : Obligations.IllegalCommandResponse := by
  intro s c hlive hbusy hwait hdecode code t
  have ht : t = s.takeIllegal c := by cases c <;> rfl
  have hstep : step s = .next (s.takeIllegal c) :=
    (step_of_completing hlive hbusy hwait).trans (completeCaptured_of_illegal hdecode)
  have hdone : (s.takeIllegal c).phase = some .done := State.phase_eq_done rfl rfl
  have hready : (s.takeIllegal c).reqReady = true := rfl
  rw [ht]
  exact ⟨hstep, hdone, hready, exists_acceptance_of_ready hlive.1 rfl⟩

end Sys2Proof.Machine
end

section
namespace Sys2Proof

/-! ## The encoder (spec/30_encoding.md R35, R39) -/

theorem toNat_append {v w : Nat} (x : BitVec v) (y : BitVec w) : (x ++ y).toNat = x.toNat * 2 ^ w + y.toNat := by
  rw [BitVec.toNat_append, Nat.shiftLeft_eq, Nat.mul_comm, Nat.two_pow_add_eq_or_of_lt y.isLt]

theorem commandWord_toNat (rsv : BitVec 20) (rem mode unit : BitVec 4) :
    (commandWord rsv rem mode unit).toNat =
      rsv.toNat * 4096 + rem.toNat * 256 + mode.toNat * 16 + unit.toNat := by
  simp only [commandWord, toNat_append]
  omega

/-- A word is put together again from its fields (R35). -/
theorem commandWord_fields (c : Word32) :
    commandWord (rsvField c) (remField c) (modeField c) (unitField c) = c := by
  rw [← BitVec.toNat_inj, commandWord_toNat, unitField_toNat, modeField_toNat, remField_toNat, rsvField_toNat]
  omega

/-- Settles O1: the fields as numbers, and the word from its fields. -/
theorem commandWordFields : Obligations.CommandWordFields := fun c =>
  ⟨unitField_toNat c, modeField_toNat c, remField_toNat c, rsvField_toNat c, commandWord_fields c⟩

@[simp] theorem unitField_commandWord (rsv : BitVec 20) (rem mode unit : BitVec 4) :
    unitField (commandWord rsv rem mode unit) = unit := by
  rw [← BitVec.toNat_inj, unitField_toNat, commandWord_toNat]
  omega

@[simp] theorem modeField_commandWord (rsv : BitVec 20) (rem mode unit : BitVec 4) :
    modeField (commandWord rsv rem mode unit) = mode := by
  rw [← BitVec.toNat_inj, modeField_toNat, commandWord_toNat]
  omega

@[simp] theorem remField_commandWord (rsv : BitVec 20) (rem mode unit : BitVec 4) :
    remField (commandWord rsv rem mode unit) = rem := by
  rw [← BitVec.toNat_inj, remField_toNat, commandWord_toNat]
  omega

@[simp] theorem rsvField_commandWord (rsv : BitVec 20) (rem mode unit : BitVec 4) :
    rsvField (commandWord rsv rem mode unit) = rsv := by
  rw [← BitVec.toNat_inj, rsvField_toNat, commandWord_toNat]
  omega

/-- Two words are the same word when their four fields are. -/
theorem word_eq_iff {c d : Word32} :
    c = d ↔
      unitField c = unitField d ∧ modeField c = modeField d ∧ remField c = remField d ∧ rsvField c = rsvField d := by
  constructor
  · rintro rfl
    exact ⟨rfl, rfl, rfl, rfl⟩
  · rintro ⟨hunit, hmode, hrem, hrsv⟩
    rw [← commandWord_fields c, ← commandWord_fields d, hunit, hmode, hrem, hrsv]

/-! The fields of an operation's own word, for every operation at once. -/

@[simp] theorem unitField_encode (i : Instr) : unitField (encode i) = i.unit := unitField_commandWord ..
@[simp] theorem modeField_encode (i : Instr) : modeField (encode i) = i.mode := modeField_commandWord ..
@[simp] theorem remField_encode (i : Instr) : remField (encode i) = i.rem := remField_commandWord ..
@[simp] theorem rsvField_encode (i : Instr) : rsvField (encode i) = 0 := rsvField_commandWord ..

/-! ## Decoder and encoder agree (spec/30_encoding.md R39, R43) -/

/-- The opcode map has every operation in the place that its unit and mode name. -/
theorem operationOf_fields (i : Instr) : operationOf i.unit.toNat i.mode.toNat i.rem = some i := by
  cases i <;> rfl

/-- The converse: the operation in a place has that unit and mode, and where it has a REM, the REM given. -/
theorem fields_of_operationOf {unit mode : Nat} {rem : BitVec 4} {i : Instr} (h : operationOf unit mode rem = some i) :
    i.unit.toNat = unit ∧ i.mode.toNat = mode ∧ i.rem = if isTailMode unit mode then rem else 0 := by
  unfold operationOf at h
  split at h
  case h_26 => cases h
  all_goals
    obtain rfl := Option.some.inj h
    exact ⟨rfl, rfl, rfl⟩

theorem operationOf_of_decode {c : Word32} {i : Instr} (h : decode c = .ok i) :
    operationOf (unitField c).toNat (modeField c).toNat (remField c) = some i := by
  simp only [decode] at h
  repeat' split at h
  all_goals cases h
  assumption

/-- Only the REM of M3.X32.T can be too large (R38). -/
theorem wellFormed_iff (i : Instr) :
    i.wellFormed = true ↔ ¬(i.unit.toNat = 4 ∧ i.mode.toNat = 1 ∧ 4 ≤ i.rem.toNat) := by
  cases i
  case m3X32T rem => simp [Instr.wellFormed, Instr.unit, Instr.mode, Instr.rem]
  all_goals simp [Instr.wellFormed, Instr.unit, Instr.mode]

theorem isTailMode_of_rem_ne_zero {i : Instr} (h : i.rem ≠ 0) : isTailMode i.unit.toNat i.mode.toNat = true := by
  cases i
  case m3X32T | m3X86T | m3X64T => rfl
  all_goals exact absurd rfl h

/-- The unit and the mode of an operation are legal, whatever its REM (R39). -/
theorem unit_mode_legal (i : Instr) : i.unit.toNat ≤ 7 ∧ i.mode.toNat < nmodes i.unit.toNat := by
  cases i <;> simp [Instr.unit, Instr.mode, nmodes]

/-- The fields of an operation break no condition of R43 when the operation is well formed. -/
theorem not_fieldIllegal_of_wellFormed {i : Instr} (hwf : i.wellFormed = true) :
    ¬FieldIllegal i.unit.toNat i.mode.toNat i.rem.toNat 0 := by
  rintro (hrsv | ⟨hnotTail, hrem⟩ | hlimit)
  · exact hrsv rfl
  · have htail := isTailMode_of_rem_ne_zero fun h0 => hrem (congrArg BitVec.toNat h0)
    simp [isTailMode_eq_false_iff.mpr hnotTail] at htail
  · exact (wellFormed_iff i).mp hwf hlimit

theorem decode_encode {i : Instr} (hwf : i.wellFormed = true) : decode (encode i) = .ok i := by
  obtain ⟨hunit, hmode⟩ := unit_mode_legal i
  obtain ⟨j, hj⟩ : ∃ j, decode (encode i) = .ok j := by
    apply decode_of_legal <;> simp only [unitField_encode, modeField_encode, remField_encode, rsvField_encode]
    · exact hunit
    · exact hmode
    · exact not_fieldIllegal_of_wellFormed hwf
  have hmap := operationOf_of_decode hj
  simp only [unitField_encode, modeField_encode, remField_encode, operationOf_fields, Option.some.injEq] at hmap
  rw [hj, hmap]

/-- What a word that decodes says of itself: the fields are those of the operation, none of them illegal. -/
theorem fields_of_decode {c : Word32} {i : Instr} (h : decode c = .ok i) :
    unitField c = i.unit ∧ modeField c = i.mode ∧ remField c = i.rem ∧ rsvField c = 0 ∧ i.wellFormed = true := by
  obtain ⟨_, _, _, houtcome⟩ := decode_outcome_iff c
  obtain ⟨-, -, hlegal⟩ := houtcome.mp ⟨i, h⟩
  obtain ⟨hunit, hmode, hrem⟩ := fields_of_operationOf (operationOf_of_decode h)
  obtain ⟨hrsv, hnotTail, hlimit⟩ : _ ∧ _ ∧ _ := by simpa only [fieldIllegal_iff, not_or] using hlegal
  have hremEq : i.rem = remField c := by
    rw [hrem]
    split
    · rfl
    · next htail => simpa [htail, eq_comm] using hnotTail
  refine ⟨BitVec.eq_of_toNat_eq hunit.symm, BitVec.eq_of_toNat_eq hmode.symm, hremEq.symm, by simpa using hrsv, ?_⟩
  rwa [wellFormed_iff, hunit, hmode, hremEq]

/-- Settles O3: the word of a well-formed operation decodes to it, and the fields of a word that decodes are those of
the operation's own word. -/
theorem decodeIffEncode : Obligations.DecodeIffEncode := by
  intro c i
  constructor
  · intro h
    obtain ⟨hunit, hmode, hrem, hrsv, hwf⟩ := fields_of_decode h
    exact ⟨hwf, word_eq_iff.mpr (by simp [hunit, hmode, hrem, hrsv])⟩
  · rintro ⟨hwf, rfl⟩
    exact decode_encode hwf

/-- Settles O2: one half of the agreement. -/
theorem decodeOfEncode : Obligations.DecodeOfEncode := fun _ hwf => decode_encode hwf

theorem wellFormed_of_decode {c : Word32} {i : Instr} (h : decode c = .ok i) : i.wellFormed = true :=
  ((decodeIffEncode c i).mp h).1

theorem decode_of_encode_eq {c : Word32} {i : Instr} (hwf : i.wellFormed = true) (h : encode i = c) :
    decode c = .ok i := (decodeIffEncode c i).mpr ⟨hwf, h⟩

/-- Settles O7: each word is the encoding of a well-formed operation. -/
theorem sampleWordsDecode : Obligations.SampleWordsDecode := by
  refine ⟨?_, ?_, ?_, ?_, ?_, ?_, ?_, ?_, ?_, ?_, ?_⟩
  all_goals exact decode_of_encode_eq rfl (by decide)

end Sys2Proof
end

section
namespace Sys2Proof

/-! ## The opcode table (spec/30_encoding.md R47) -/

/-- The bits of REM that are free in an operation's word (spec/30_encoding.md R38, R47). -/
def Instr.remMask : Instr → BitVec 4
  | .m3X32T _ => 3
  | .m3X86T _ | .m3X64T _ => 15
  | _ => 0

/-- The row of an operation: UNIT and MODE are matched, RSV and the REM bits outside the mask are matched with 0. -/
def Instr.row (i : Instr) : OpcodeRow :=
  ⟨i.mnemonic, commandWord 0 0 i.mode i.unit,
    commandWord (BitVec.allOnes 20) (~~~i.remMask) (BitVec.allOnes 4) (BitVec.allOnes 4)⟩

/-- One operation for each of the 25 mnemonics, in the order of the table, the tails with REM 0. -/
def tableInstrs : List Instr :=
  [.hmix32, .hmix64S, .hmix64K0, .hmix64K1, .hmix64K2, .hmix64K3, .hmix64Kmul, .hl16, .wh32, .m3X32B, .m3X32T 0,
    .m3X86B, .m3X86T 0, .m3X64B, .m3X64T 0, .fmix32, .fmix64, .ldmuxC32, .ldmuxC64, .ldmuxC128S, .ldmuxCMur,
    .ldmuxC128U, .ldmuxM32, .ldmuxM86, .ldmuxM64]

theorem opcodeTable_eq : opcodeTable = tableInstrs.map Instr.row := by decide

theorem opcodeTable_mnemonics_nodup : (opcodeTable.map OpcodeRow.mnemonic).Nodup := by decide

/-- The operation with another REM, where it has one. -/
def Instr.withRem : Instr → BitVec 4 → Instr
  | .m3X32T _, rem => .m3X32T rem
  | .m3X86T _, rem => .m3X86T rem
  | .m3X64T _, rem => .m3X64T rem
  | i, _ => i

@[simp] theorem Instr.row_withRem (i : Instr) (rem : BitVec 4) : (i.withRem rem).row = i.row := by cases i <;> rfl
@[simp] theorem Instr.unit_withRem (i : Instr) (rem : BitVec 4) : (i.withRem rem).unit = i.unit := by cases i <;> rfl
@[simp] theorem Instr.mode_withRem (i : Instr) (rem : BitVec 4) : (i.withRem rem).mode = i.mode := by cases i <;> rfl

theorem Instr.row_mem_opcodeTable (i : Instr) : i.row ∈ opcodeTable := by
  have hmem : i.withRem 0 ∈ tableInstrs := by cases i <;> simp [Instr.withRem, tableInstrs]
  rw [opcodeTable_eq, ← i.row_withRem 0]
  exact List.mem_map_of_mem hmem

/-- A REM inside the mask is one the operation admits, and there is one for every operation that is well formed. -/
theorem Instr.withRem_of_masked {i : Instr} {rem : BitVec 4} (h : rem &&& ~~~i.remMask = 0) :
    (i.withRem rem).rem = rem ∧ (i.withRem rem).wellFormed = true := by
  revert h
  cases i <;> simp only [Instr.remMask, Instr.withRem, Instr.rem, Instr.wellFormed] <;> revert rem <;> decide

theorem Instr.rem_masked_of_wellFormed {i : Instr} (hwf : i.wellFormed = true) : i.rem &&& ~~~i.remMask = 0 := by
  revert hwf
  cases i
  case m3X32T rem | m3X86T rem | m3X64T rem => revert rem; decide
  all_goals decide

@[simp] theorem unitField_and (c d : Word32) : unitField (c &&& d) = unitField c &&& unitField d :=
  BitVec.extractLsb'_and
@[simp] theorem modeField_and (c d : Word32) : modeField (c &&& d) = modeField c &&& modeField d :=
  BitVec.extractLsb'_and
@[simp] theorem remField_and (c d : Word32) : remField (c &&& d) = remField c &&& remField d :=
  BitVec.extractLsb'_and
@[simp] theorem rsvField_and (c d : Word32) : rsvField (c &&& d) = rsvField c &&& rsvField d :=
  BitVec.extractLsb'_and

/-- What a row tests of a word, field by field. -/
theorem Instr.row_selects_iff (i : Instr) (c : Word32) :
    i.row.selects c = true ↔
      unitField c = i.unit ∧ modeField c = i.mode ∧ remField c &&& ~~~i.remMask = 0 ∧ rsvField c = 0 := by
  rw [OpcodeRow.selects, beq_iff_eq, word_eq_iff]
  simp only [Instr.row, unitField_and, modeField_and, remField_and, rsvField_and, unitField_commandWord,
    modeField_commandWord, remField_commandWord, rsvField_commandWord, BitVec.and_allOnes]

/-- The row of an operation selects the words that decode to an operation of the same row. -/
theorem Instr.row_selects_iff_decode (i : Instr) (c : Word32) :
    i.row.selects c = true ↔ ∃ j, decode c = .ok j ∧ j.row = i.row := by
  rw [i.row_selects_iff]
  constructor
  · rintro ⟨hunit, hmode, hmask, hrsv⟩
    obtain ⟨hrem, hwf⟩ := Instr.withRem_of_masked hmask
    refine ⟨i.withRem (remField c), decode_of_encode_eq hwf ?_, i.row_withRem _⟩
    exact word_eq_iff.mpr (by simp [hunit, hmode, hrem, hrsv])
  · rintro ⟨j, hdecode, hrow⟩
    obtain ⟨hunit, hmode, hrem, hrsv, hwf⟩ := fields_of_decode hdecode
    have hself := (j.row_selects_iff c).mpr ⟨hunit, hmode, hrem ▸ Instr.rem_masked_of_wellFormed hwf, hrsv⟩
    exact (i.row_selects_iff c).mp (hrow ▸ hself)

/-- A mnemonic stands in one row of the table. -/
theorem Instr.row_eq_iff {i j : Instr} : j.row = i.row ↔ j.mnemonic = i.mnemonic :=
  ⟨congrArg OpcodeRow.mnemonic,
    List.inj_on_of_nodup_map opcodeTable_mnemonics_nodup j.row_mem_opcodeTable i.row_mem_opcodeTable⟩

theorem selects_iff_decode {row : OpcodeRow} (hrow : row ∈ opcodeTable) (c : Word32) :
    row.selects c = true ↔ ∃ i, decode c = .ok i ∧ i.mnemonic = row.mnemonic := by
  rw [opcodeTable_eq, List.mem_map] at hrow
  obtain ⟨i, -, rfl⟩ := hrow
  simp only [i.row_selects_iff_decode, Instr.row_eq_iff]
  rfl

/-- One row of a mnemonic stands in the table. -/
theorem length_filter_mnemonic (i : Instr) :
    (opcodeTable.filter fun row => row.mnemonic == i.mnemonic).length = 1 := by
  have hmem : i.mnemonic ∈ opcodeTable.map OpcodeRow.mnemonic := List.mem_map_of_mem i.row_mem_opcodeTable
  have hcount := List.count_eq_one_of_mem opcodeTable_mnemonics_nodup hmem
  rwa [List.count, List.countP_map, List.countP_eq_length_filter] at hcount

/-- Settles O5: a row is the row of some operation, so it selects what decodes to its mnemonic; and a mnemonic has one
row. -/
theorem opcodeTableSelects : Obligations.OpcodeTableSelects := by
  refine ⟨fun c row hrow => selects_iff_decode hrow c, fun c => ?_⟩
  cases hdecode : decode c with
  | error e =>
    have hnone : ∀ row ∈ opcodeTable, ¬row.selects c = true := fun row hrow => by
      simp [selects_iff_decode hrow, hdecode]
    rw [List.filter_eq_nil_iff.mpr hnone]
    rfl
  | ok i =>
    have hrows : ∀ row ∈ opcodeTable, row.selects c = (row.mnemonic == i.mnemonic) := fun row hrow => by
      rw [Bool.eq_iff_iff, selects_iff_decode hrow, hdecode, beq_iff_eq]
      simp [eq_comm]
    rw [List.filter_congr hrows, length_filter_mnemonic]
    rfl

/-! ## The legal words (spec/95_test_vectors.md section 2.11) -/

/-- The operations of the table, each with every REM inside its mask. -/
def legalInstrs : List Instr :=
  tableInstrs.flatMap fun i => (List.range (i.remMask.toNat + 1)).map fun r => i.withRem (BitVec.ofNat 4 r)

theorem mem_legalInstrs {i : Instr} : i ∈ legalInstrs ↔ i.wellFormed = true := by
  constructor
  · have hall : ∀ j ∈ legalInstrs, j.wellFormed = true := by decide
    exact hall i
  · cases i
    case m3X32T rem | m3X86T rem | m3X64T rem => revert rem; decide
    all_goals decide

/-- A word is legal when it is the word of one of these operations. -/
theorem decode_isOk_iff (c : Word32) : (decode c).isOk = true ↔ ∃ i ∈ legalInstrs, encode i = c := by
  simp only [mem_legalInstrs, ← decodeIffEncode c]
  cases decode c <;> simp [Except.isOk, Except.toBool]

/-- The legal words below 4096, as numbers: every legal word is one, for its RSV is 0. -/
theorem mem_legal_words_iff (n : Nat) :
    n ∈ (List.range 4096).filter (fun n => (decode (BitVec.ofNat 32 n)).isOk) ↔
      n ∈ legalInstrs.map fun i => (encode i).toNat := by
  have hsmall : ∀ i ∈ legalInstrs, (encode i).toNat < 4096 := by decide
  simp only [List.mem_filter, List.mem_range, List.mem_map, decode_isOk_iff]
  constructor
  · rintro ⟨hn, i, hi, hword⟩
    exact ⟨i, hi, by rw [hword, BitVec.toNat_ofNat, Nat.mod_eq_of_lt (by omega)]⟩
  · rintro ⟨i, hi, rfl⟩
    exact ⟨hsmall i hi, i, hi, by rw [BitVec.ofNat_toNat, BitVec.setWidth_eq]⟩

/-- Settles O6: the legal words are the words of the 58 legal operations, which are all different. -/
theorem legalWordCount : Obligations.LegalWordCount := by
  have hdistinct : (legalInstrs.map fun i => (encode i).toNat).Nodup := by decide
  have hperm := (List.perm_ext_iff_of_nodup (List.nodup_range.filter _) hdistinct).mpr mem_legal_words_iff
  rw [Obligations.LegalWordCount, List.countP_eq_length_filter, hperm.length_eq]
  rfl

end Sys2Proof
end

section
namespace Sys2Proof.Machine

/-! ## The answer of a completion (spec/10_state.md R14, R15) -/

/-- The state a completion leaves when the response is `a`: both result registers, `STATUS` and `BUSY` are written and
nothing is left to wait for. -/
def State.answered (s : State) (a : Response) : State :=
  { s with y0 := a.y0, y1 := a.y1, status := ⟨true, a.err, a.code⟩, busy := false, waitLeft := 0 }

theorem State.phase_answered (s : State) (a : Response) : (s.answered a).phase = some .done :=
  State.phase_eq_done rfl rfl

theorem State.readResponse_of_valid {s : State} (hreset : s.sawReset = true) (hvalid : s.status.valid = true) :
    s.readResponse = .next s.response := by
  simp [State.readResponse, hreset, hvalid]

theorem State.readResponse_answered {s : State} (hreset : s.sawReset = true) (a : Response) :
    (s.answered a).readResponse = .next a := State.readResponse_of_valid hreset rfl

/-- `EXEC` answers every request, and its answer is the one a completion gives on every block of the same build
(spec/10_state.md section 2). -/
theorem exists_execResponse (p : Params) (r : Request) :
    ∃ a, execResponse p r = some a ∧
      ∀ s : State, s.captured = r → s.params = p → completeCaptured s = .next (s.answered a) := by
  obtain ⟨a, hanswer⟩ := completeCaptured_answers ((State.resetWith p).holding r)
  refine ⟨a, ?_, hanswer⟩
  rw [execResponse, hanswer _ rfl rfl]
  rfl

theorem completeCaptured_of_execResponse {s : State} {a : Response}
    (h : execResponse s.params s.captured = some a) : completeCaptured s = .next (s.answered a) := by
  obtain ⟨b, hb, hanswer⟩ := exists_execResponse s.params s.captured
  obtain rfl : b = a := Option.some.inj (hb.symm.trans h)
  exact hanswer s rfl rfl

theorem execResponse_of_completeCaptured {s t : State} (h : completeCaptured s = .next t) :
    execResponse s.params s.captured = some t.response := by
  obtain ⟨a, ha, hanswer⟩ := exists_execResponse s.params s.captured
  obtain rfl : s.answered a = t := by simpa [hanswer s rfl rfl] using h
  exact ha

theorem completeCaptured_of_legal {s : State} {i : Instr} (hdecode : decode s.captured.cmd = .ok i) :
    completeCaptured s = exec i s := by
  simp [completeCaptured, hdecode]

/-- The status a command word is answered with: its operands have no part in it. -/
def commandStatus (c : Word32) : Status :=
  match decode c with
  | .ok _ => statusOk
  | .error e => statusIllegal e

theorem commandStatus_of_legal {c : Word32} {i : Instr} (h : decode c = .ok i) : commandStatus c = statusOk := by
  rw [commandStatus, h]

theorem commandStatus_of_illegal {c : Word32} {e : IllegalCause} (h : decode c = .error e) :
    commandStatus c = statusIllegal e := by
  rw [commandStatus, h]

theorem status_of_completeCaptured {s t : State} (h : completeCaptured s = .next t) :
    t.status = commandStatus s.captured.cmd := by
  cases hdecode : decode s.captured.cmd with
  | ok i =>
    obtain ⟨y0, y1, hexec⟩ := exec_eq_respond_of_wellFormed s (wellFormed_of_decode hdecode)
    rw [completeCaptured_of_legal hdecode, hexec] at h
    rw [← Host.Outcome.next.inj h, commandStatus_of_legal hdecode, State.respond_status]
  | error e =>
    rw [completeCaptured_of_illegal hdecode] at h
    rw [← Host.Outcome.next.inj h, commandStatus_of_illegal hdecode, State.takeIllegal_status]

/-- Whether a response is an error, and which, is settled by the command word (spec/60_exceptions.md R130, R131). -/
theorem status_of_execResponse {p : Params} {r : Request} {a : Response} (h : execResponse p r = some a) :
    ⟨true, a.err, a.code⟩ = commandStatus r.cmd :=
  status_of_completeCaptured (completeCaptured_of_execResponse (s := (State.resetWith p).holding r) h)

/-! ## The edges, one lemma for each kind that is not above (spec/70_reset_and_hazards.md R148, R154) -/

theorem step_of_reset {s : State} (hrst : s.ports.rst = true) : step s = .next s.resetEdge := by
  simp [step, clockEdge, hrst]

theorem step_of_waiting {s : State} (hlive : s.live) (hbusy : s.busy = true) (hwait : s.waitLeft ≠ 0) :
    step s = .next s.waitEdge := by
  obtain ⟨hreset, hrst⟩ := hlive
  simp [step, clockEdge, busyEdge, hreset, hrst, hbusy, hwait]

theorem step_of_idle {s : State} (hlive : s.live) (hready : s.busy = false) (hnone : s.ports.reqValid = false) :
    step s = .next s := by
  obtain ⟨hreset, hrst⟩ := hlive
  simp [step, clockEdge, hreset, hrst, hready, hnone]

theorem runEdges_succ {s t : State} (h : step s = .next t) (k : Nat) : runEdges (k + 1) s = runEdges k t := by
  simp [runEdges, h]

theorem runEdges_one (s : State) : runEdges 1 s = step s := by
  cases h : step s <;> simp only [runEdges, h]

theorem runEdges_add {j : Nat} {s t : State} (h : runEdges j s = .next t) (k : Nat) :
    runEdges (j + k) s = runEdges k t := by
  induction j generalizing s with
  | zero =>
    obtain rfl : s = t := by simpa [runEdges] using h
    rw [Nat.zero_add]
  | succ j ih =>
    rw [runEdges] at h
    split at h
    · next u hu => rw [Nat.succ_add, runEdges_succ hu, ih h]
    all_goals cases h

/-! ## Single edges -/

/-- Settles O9: the completing edge is the completion, and that of a word that decodes is the operation's meaning. -/
theorem stepRunsDecoded : Obligations.StepRunsDecoded := by
  intro s i hlive hbusy hwait hdecode
  rw [step_of_completing hlive hbusy hwait, completeCaptured_of_legal hdecode]

theorem decode_of_decodeTableWord {nbits w : Nat} {i : Instr} (h : decodeTableWord nbits w = some i) :
    decode (BitVec.ofNat 32 (w % 2 ^ nbits)) = .ok i := by
  simp only [decodeTableWord] at h
  split at h
  · split at h
    · next j hj => rw [hj, Option.some.inj h]
    · cases h
  · cases h

/-- Settles O10: a placed word stands at its completing edge. -/
theorem placedWordRuns : Obligations.PlacedWordRuns := by
  intro s w i _ hword
  exact stepRunsDecoded _ i ⟨rfl, rfl⟩ rfl rfl (decode_of_decodeTableWord hword)

/-- Settles O12: a ready block to which a request is presented accepts it, and of the edges of a ready block only the
acceptance leaves it busy. -/
theorem acceptanceEdge : Obligations.AcceptanceEdge := by
  constructor
  · intro s hlive hvalid hready
    have hfree : s.busy = false := by simpa [State.reqReady] using hready
    exact ⟨_, step_of_presented hlive hfree hvalid, rfl, rfl, rfl, rfl, hlive.1⟩
  · intro s t hstep hfree hbusy
    rcases step_cases hstep with ⟨-, rfl⟩ | ⟨-, hb, -⟩ | ⟨-, hb, -⟩ | ⟨hlive, -, hvalid, -⟩ | ⟨-, -, -, rfl⟩
    · cases hbusy
    · simp [hfree] at hb
    · simp [hfree] at hb
    · exact ⟨hvalid, hlive.2⟩
    · simp [hfree] at hbusy

/-- Settles O13: waiting and completing both leave the ports alone, and a completion is a function of the captured
request. -/
theorem busyLooksAtNoRequest : Obligations.BusyLooksAtNoRequest := by
  intro s t v q hlive hbusy hstep
  refine ⟨by simp [State.reqReady, hbusy], ?_⟩
  have hlive' : (s.drive ⟨false, v, q⟩).live := ⟨hlive.1, rfl⟩
  by_cases hwait : s.waitLeft = 0
  · obtain ⟨a, -, hanswer⟩ := exists_execResponse s.params s.captured
    rw [step_of_completing hlive hbusy hwait, hanswer s rfl rfl] at hstep
    obtain rfl := Host.Outcome.next.inj hstep
    rw [step_of_completing hlive' hbusy hwait, hanswer (s.drive ⟨false, v, q⟩) rfl rfl]
    rfl
  · rw [step_of_waiting hlive hbusy hwait] at hstep
    obtain rfl := Host.Outcome.next.inj hstep
    rw [step_of_waiting hlive' hbusy hwait]
    rfl

/-- Settles O14: the edge is the reset edge, which leaves a block that has been reset, is not busy and holds no
response. -/
theorem resetEdge : Obligations.ResetEdge := fun s hrst =>
  ⟨s.resetEdge, step_of_reset hrst, rfl, rfl, rfl, rfl, rfl, State.readResponse_of_not_valid rfl rfl,
    exists_acceptance_of_ready rfl rfl⟩

/-- Settles O17: each refusal is the first test of its function, and a reset edge comes before it. -/
theorem nothingBeforeFirstReset : Obligations.NothingBeforeFirstReset := by
  intro s
  refine ⟨fun hrst => ?_, fun r => ?_, ?_, ?_, fun hrst => ⟨_, step_of_reset hrst, rfl, rfl⟩⟩
  · simp [step, clockEdge, hrst]
  · simp [transact]
  · simp [State.readResponse]
  · simp [State.readReady]

/-- Settles O18: of the two ways a read can go on a block that has been reset, `VALID` chooses. -/
theorem readNeedsValid : Obligations.ReadNeedsValid := fun _ hreset =>
  ⟨State.readResponse_of_not_valid hreset, State.readResponse_of_valid hreset⟩

theorem exec_m3X32T_of_le {rem : BitVec 4} (hrem : 4 ≤ rem.toNat) (s : State) :
    exec (.m3X32T rem) s = .next (s.takeIllegal .illegalField) := if_neg (by omega)

/-- Settles O59: the meaning of the term and the completion of its word both take the error response. -/
theorem m3X32TIllFormedTerm : Obligations.M3X32TIllFormedTerm := by
  intro s rem hrem
  refine ⟨exec_m3X32T_of_le hrem s, fun hlive hbusy hwait hword => ?_⟩
  have hillegal := hword ▸ decode_encode_m3X32T_of_le hrem
  rw [step_of_completing hlive hbusy hwait, completeCaptured_of_illegal hillegal, exec_m3X32T_of_le hrem]

theorem stepInstance_cases {blocks after : List State} {k : Nat} (h : stepInstance blocks k = .next after) :
    (blocks[k]? = none ∧ after = blocks) ∨
      ∃ s t, blocks[k]? = some s ∧ step s = .next t ∧ after = blocks.set k t := by
  unfold stepInstance at h
  split at h
  · next hnone => exact .inl ⟨hnone, (Host.Outcome.next.inj h).symm⟩
  · next s hs =>
    split at h
    · next t ht => exact .inr ⟨s, t, hs, ht, (Host.Outcome.next.inj h).symm⟩
    all_goals cases h

/-- Settles O29: the blocks after the edge are those before it, with the stepped one replaced where there is one. -/
theorem instancesShareNothing : Obligations.InstancesShareNothing := by
  intro blocks after k j h
  rcases stepInstance_cases h with ⟨hnone, rfl⟩ | ⟨s, t, hs, ht, rfl⟩
  · exact ⟨rfl, fun _ => rfl, fun s hs => by simp [hnone] at hs⟩
  · refine ⟨List.length_set, fun hj => List.getElem?_set_ne hj.symm, fun u hu => ⟨t, ?_, ?_⟩⟩
    · rw [← Option.some.inj (hs.symm.trans hu), ht]
    · obtain ⟨hk, -⟩ := List.getElem?_eq_some_iff.mp hs
      exact List.getElem?_set_self hk

end Sys2Proof.Machine
end

section
namespace Sys2Proof.Machine

/-! ## Runs of edges (spec/10_state.md section 4, spec/70_reset_and_hazards.md sections 2 and 5) -/

/-- Settles O16: every edge leaves the state, so any number does. -/
theorem readyBlockIdles : Obligations.ReadyBlockIdles := by
  intro k s hlive hready hnone
  induction k with
  | zero => rfl
  | succ k ih => rw [runEdges_succ (step_of_idle hlive hready hnone), ih]

/-- The edges of the latency count down and do nothing else. -/
theorem runEdges_of_waiting {s : State} (hlive : s.live) (hbusy : s.busy = true) {k : Nat} (hk : k ≤ s.waitLeft) :
    runEdges k s = .next { s with waitLeft := s.waitLeft - k } := by
  induction k generalizing s with
  | zero => rfl
  | succ k ih =>
    have hstep := step_of_waiting hlive hbusy (by omega)
    have hrest := ih (s := s.waitEdge) hlive hbusy (by rw [State.waitEdge_waitLeft]; omega)
    rw [runEdges_succ hstep, hrest, State.waitEdge_waitLeft, Nat.sub_sub, Nat.add_comm 1]
    rfl

/-- The edge after them completes the captured request, and of the countdown nothing is left. -/
theorem runEdges_latency {s : State} {a : Response} (hlive : s.live) (hbusy : s.busy = true)
    (ha : execResponse s.params s.captured = some a) : runEdges (s.waitLeft + 1) s = .next (s.answered a) := by
  let due : State := { s with waitLeft := s.waitLeft - s.waitLeft }
  have hdue : step due = completeCaptured due := step_of_completing hlive hbusy (Nat.sub_self _)
  rw [runEdges_add (runEdges_of_waiting hlive hbusy le_rfl), runEdges_one, hdue,
    completeCaptured_of_execResponse (s := due) ha]
  rfl

/-- Settles O19: the latency, then the completion, whose response stands readable. -/
theorem completionGuaranteed : Obligations.CompletionGuaranteed := by
  intro s hlive hbusy
  obtain ⟨a, ha, -⟩ := exists_execResponse s.params s.captured
  exact ⟨fun k hk => runEdges_of_waiting hlive hbusy hk, s.answered a, a, runEdges_latency hlive hbusy ha, rfl,
    State.readResponse_answered hlive.1 a⟩

/-! ## Transactions (spec/70_reset_and_hazards.md R151) -/

/-- A transaction on any block that has been reset is the acceptance and the completion of its request on a ready
block of the same build: this one, or the one in which the operation in flight has completed (log 13). -/
theorem transact_eq {s : State} (hreset : s.sawReset = true) (r : Request) :
    ∃ b : State, b.sawReset = true ∧ b.params = s.params ∧ transact r s = completeCaptured (b.accept r) := by
  cases hbusy : s.busy with
  | false => exact ⟨s, hreset, rfl, transact_ready hreset hbusy⟩
  | true =>
    obtain ⟨a, -, hanswer⟩ := exists_execResponse s.params s.captured
    exact ⟨s.answered a, hreset, rfl, by simp [transact, hreset, hbusy, hanswer s rfl rfl]⟩

theorem sawReset_of_transact {r : Request} {s t : State} (h : transact r s = .next t) : s.sawReset = true := by
  cases hreset : s.sawReset with
  | true => rfl
  | false => simp [transact, hreset] at h

/-- The transaction answers with `EXEC` of its request, and leaves the block reset, built as it was, and in DONE. -/
theorem transact_of_execResponse {s : State} {r : Request} {a : Response} (hreset : s.sawReset = true)
    (ha : execResponse s.params r = some a) :
    ∃ t, transact r s = .next t ∧ t.sawReset = true ∧ t.params = s.params ∧ t.phase = some .done ∧
      t.status = ⟨true, a.err, a.code⟩ ∧ t.readResponse = .next a := by
  obtain ⟨b, hb, hparams, htransact⟩ := transact_eq hreset r
  have hcomplete := completeCaptured_of_execResponse (s := b.accept r) (hparams ▸ ha)
  exact ⟨(b.accept r).answered a, htransact.trans hcomplete, hb, hparams, State.phase_answered .., rfl,
    State.readResponse_answered (s := b.accept r) hb a⟩

/-- Settles O24: `EXEC` answers the request, and every transaction of it answers the same. -/
theorem historyIndependence : Obligations.HistoryIndependence := by
  intro p r
  obtain ⟨a, ha, -⟩ := exists_execResponse p r
  refine ⟨a, ha, fun s hreset hparams => ?_⟩
  obtain ⟨t, ht, -, -, -, -, hread⟩ := transact_of_execResponse hreset (hparams ▸ ha)
  exact ⟨t, ht, hread⟩

/-- Settles O25: the command word settles the status of either response. -/
theorem controlDependsOnCommandOnly : Obligations.ControlDependsOnCommandOnly := by
  intro p p' r q a b hcmd ha hb
  have hstatus : (⟨true, a.err, a.code⟩ : Status) = ⟨true, b.err, b.code⟩ :=
    calc
      _ = commandStatus r.cmd := status_of_execResponse ha
      _ = commandStatus q.cmd := by rw [hcmd]
      _ = _ := (status_of_execResponse hb).symm
  exact ⟨congrArg Status.err hstatus, congrArg Status.code hstatus⟩

/-- Settles O27: the first transaction leaves a block that has been reset, and a legal word gives no error. -/
theorem errorsAreNotSticky : Obligations.ErrorsAreNotSticky := by
  intro p r i s hreset hdecode
  obtain ⟨a, ha, -⟩ := exists_execResponse s.params p
  obtain ⟨t, ht, htReset, -⟩ := transact_of_execResponse hreset ha
  obtain ⟨b, hb, -⟩ := exists_execResponse t.params r
  obtain ⟨u, hu, -, -, -, hstatus, -⟩ := transact_of_execResponse htReset hb
  exact ⟨t, u, ht, hu, by rw [hstatus, status_of_execResponse hb, commandStatus_of_legal hdecode]; rfl⟩

/-- Settles O28: on the ports the request is accepted, waits and completes; the acceptance on the ports differs from the
atomic one in the ports alone. -/
theorem edgesRefineAtomic : Obligations.EdgesRefineAtomic := by
  intro r s hreset hready
  obtain ⟨a, ha, -⟩ := exists_execResponse s.params r
  let accepted : State := (s.drive (presenting r)).accept r
  let inFlight : State := accepted.drive (released r)
  have hstep : step (s.drive (presenting r)) = .next accepted := step_of_presented ⟨hreset, rfl⟩ hready rfl
  have hlive : inFlight.live := ⟨hreset, rfl⟩
  have hatomic : transact r s = .next ((s.accept r).answered a) :=
    (transact_ready hreset hready).trans (completeCaptured_of_execResponse (s := s.accept r) ha)
  refine ⟨(s.accept r).answered a, hatomic, ?_, accepted, hstep, fun k v hk hv => ?_⟩
  · have hcomplete := runEdges_latency (s := inFlight) hlive rfl ha
    simp only [transactEdges, hstep]
    exact hcomplete
  · have hwaiting := runEdges_of_waiting (s := inFlight) hlive rfl hk
    obtain rfl := Host.Outcome.next.inj (hwaiting.symm.trans hv)
    exact ⟨rfl, State.readResponse_of_not_valid hreset rfl⟩

/-! ## A reset held at 1 (spec/70_reset_and_hazards.md R148, R149) -/

theorem runEdges_of_reset {s : State} (hrst : s.ports.rst = true) (k : Nat) :
    ∃ t, runEdges (k + 1) s = .next t ∧ t.phase = some .empty ∧ t.sawReset = true ∧ t.params = s.params := by
  induction k generalizing s with
  | zero => exact ⟨s.resetEdge, by rw [runEdges_one, step_of_reset hrst], rfl, rfl, rfl⟩
  | succ k ih =>
    obtain ⟨t, ht, hempty, hreset, hparams⟩ := ih (s := s.resetEdge) hrst
    exact ⟨t, by rw [runEdges_succ (step_of_reset hrst), ht], hempty, hreset, hparams⟩

/-- Settles O20: the run of reset edges leaves a block of the same build that has been reset, and `EXEC` is what such a
block answers, whatever came before. -/
theorem resetAbandonsOperation : Obligations.ResetAbandonsOperation := by
  intro s k r hrst
  obtain ⟨t, ht, hempty, hreset, hparams⟩ := runEdges_of_reset hrst k
  refine ⟨t, ht, hempty, fun u u' a hu hu' hread => ?_⟩
  obtain ⟨b, -, hanswers⟩ := historyIndependence s.params r
  obtain ⟨v, hv, hvRead⟩ := hanswers t hreset hparams
  obtain ⟨v', hv', hvRead'⟩ := hanswers (State.resetWith s.params) rfl rfl
  obtain rfl := Host.Outcome.next.inj (hv.symm.trans hu)
  obtain rfl := Host.Outcome.next.inj (hv'.symm.trans hu')
  rw [hvRead', ← hvRead, hread]

/-! ## The invariants (spec/10_state.md sections 2 and 4) -/

/-- A completion reports an error exactly when it reports a cause, and an error has no result (spec/60_exceptions.md
R133). -/
theorem phaseInv_of_completeCaptured {s t : State} (h : completeCaptured s = .next t) : t.phaseInv := by
  rcases completeCaptured_cases h with ⟨y0, y1, rfl⟩ | ⟨c, rfl⟩
  · simp [State.phaseInv, State.phase]
  · have hcause : ¬causeCode c = 0#2 := causeCode_ne_zero c
    simp [State.phaseInv, State.phase, hcause]

theorem phaseInv_resetEdge (s : State) : s.resetEdge.phaseInv := by simp [State.phaseInv, State.phase]

theorem phaseInv_accept (s : State) (r : Request) : (s.accept r).phaseInv := by simp [State.phaseInv, State.phase]

/-- BUSY excludes VALID (spec/10_state.md R19). -/
theorem valid_eq_false_of_busy {s : State} (hinv : s.phaseInv) (hbusy : s.busy = true) : s.status.valid = false := by
  obtain ⟨hphase, -⟩ := hinv
  cases hvalid : s.status.valid with
  | false => rfl
  | true => simp [State.phase, hbusy, hvalid] at hphase

theorem phaseInv_waitEdge {s : State} (hinv : s.phaseInv) (hbusy : s.busy = true) : s.waitEdge.phaseInv := by
  have hvalid := valid_eq_false_of_busy hinv hbusy
  simp [State.phaseInv, State.phase, hbusy, hvalid]

/-- Settles O22: every kind of edge leads to a phase, and the status it leaves is that of the phase. -/
theorem phaseInvariantKept : Obligations.PhaseInvariantKept := by
  intro s t hinv hstep
  rcases step_cases hstep with ⟨-, rfl⟩ | ⟨-, hbusy, -, rfl⟩ | ⟨-, -, -, hcomplete⟩ | ⟨-, -, -, rfl⟩ | ⟨-, -, -, rfl⟩
  · exact phaseInv_resetEdge s
  · exact phaseInv_waitEdge hinv hbusy
  · exact phaseInv_of_completeCaptured hcomplete
  · exact phaseInv_accept s _
  · exact hinv

/-- A completion leaves the request it answered in `captured` (log 21). -/
theorem captured_params_of_completeCaptured {s t : State} (h : completeCaptured s = .next t) :
    t.captured = s.captured ∧ t.params = s.params := by
  rcases completeCaptured_cases h with ⟨y0, y1, rfl⟩ | ⟨c, rfl⟩ <;> exact ⟨rfl, rfl⟩

/-- Settles O23: only a completion makes a response valid, and it is `EXEC` of the captured request; an idle edge keeps
it, and every other edge leaves no valid response. -/
theorem responseInvariantKept : Obligations.ResponseInvariantKept := by
  intro s t hinv hstep
  obtain ⟨hphase, hresponse⟩ := hinv
  refine ⟨phaseInvariantKept s t hphase hstep, fun hvalid => ?_⟩
  rcases step_cases hstep with ⟨-, rfl⟩ | ⟨-, hbusy, -, rfl⟩ | ⟨-, -, -, hcomplete⟩ | ⟨-, -, -, rfl⟩ | ⟨-, -, -, rfl⟩
  · cases hvalid
  · exact absurd hvalid (by simp [valid_eq_false_of_busy hphase hbusy])
  · obtain ⟨hcaptured, hparams⟩ := captured_params_of_completeCaptured hcomplete
    rw [hcaptured, hparams]
    exact execResponse_of_completeCaptured hcomplete
  · cases hvalid
  · exact hresponse hvalid

/-- Settles O21: in EMPTY there is no response for either invariant to speak of. -/
theorem resetMeetsInvariants : Obligations.ResetMeetsInvariants := by
  have hphase : State.reset.phase = some .empty := rfl
  have hphaseInv : State.reset.phaseInv := by decide
  exact ⟨hphase, hphaseInv, hphaseInv, fun hvalid => by simp at hvalid⟩

/-- Settles O60: no kind of edge writes the parameters, and a transaction is an acceptance and a completion. -/
theorem buildNeverChanges : Obligations.BuildNeverChanges := by
  refine ⟨rfl, rfl, fun s t hstep => ?_, fun r s t ht => ?_, fun s => rfl⟩
  · rcases step_cases hstep with ⟨-, rfl⟩ | ⟨-, -, -, rfl⟩ | ⟨-, -, -, hcomplete⟩ | ⟨-, -, -, rfl⟩ | ⟨-, -, -, rfl⟩
    · rfl
    · rfl
    · exact (captured_params_of_completeCaptured hcomplete).2
    · rfl
    · rfl
  · have hreset : s.sawReset = true := sawReset_of_transact ht
    obtain ⟨b, -, hparams, htransact⟩ := transact_eq hreset r
    exact (captured_params_of_completeCaptured (htransact.symm.trans ht)).2.trans hparams

end Sys2Proof.Machine
end

section
namespace Sys2Proof.Machine

/-! ## Reading an answer off an outcome -/

theorem eq_respond_of_answers {i : Instr} {s t : State} {y0 y1 : Word64} (hanswers : Answers i s y0 y1)
    (hexec : exec i s = .next t) : t = s.respond y0 y1 :=
  Host.Outcome.next.inj (hexec.symm.trans hanswers)

/-- Two legal answers with the same results are the same response. -/
theorem response_eq_of_answers {i j : Instr} {s t s' t' : State} {y0 y1 : Word64} (hs : Answers i s y0 y1)
    (ht : Answers j t y0 y1) (hs' : exec i s = .next s') (ht' : exec j t = .next t') : s'.response = t'.response := by
  rw [eq_respond_of_answers hs hs', eq_respond_of_answers ht ht']
  rfl

theorem answers_iff_of_exec_eq_respond {i : Instr} {s : State} {y0 y1 z0 z1 : Word64}
    (hexec : exec i s = .next (s.respond y0 y1)) : Answers i s z0 z1 ↔ y0 = z0 ∧ y1 = z1 := by
  constructor
  · intro hanswers
    have heq := eq_respond_of_answers hanswers hexec
    exact ⟨congrArg State.y0 heq, congrArg State.y1 heq⟩
  · rintro ⟨rfl, rfl⟩
    exact hexec

/-! ## HMIX32 is M3.X32.B (spec/40_hmix32.md) -/

/-- A right rotate is a left rotate by the rest of the width. -/
theorem rotateRight_eq_rotateLeft {n r : Nat} (v : BitVec n) (hr : r < n) (hpos : 0 < r) :
    v.rotateRight r = v.rotateLeft (n - r) := by
  rw [rotateRight_eq_shifts v hr, rotateLeft_eq_shifts v (by omega), Nat.sub_sub_self hr.le, BitVec.or_comm]

theorem hmix32_eq_m3X32Body (a h : Word32) : hmix32 a h = m3X32Body h a := by
  simp only [hmix32, m3X32Body, kmX32, rotateRight_eq_rotateLeft _ (show 17 < 32 by decide),
    rotateRight_eq_rotateLeft _ (show 19 < 32 by decide), Nat.reduceSub, Nat.reduceLT]

/-- Settles O44: the two completions, of one function. -/
theorem hmix32EqualsM3X32B : Obligations.Hmix32EqualsM3X32B := by
  intro s t s' t' hword hacc hs ht
  have hanswers : Answers .hmix32 s (zext64 (m3X32Body (lo32 t.captured.x0) (lo32 t.captured.x2))) 0 :=
    answers_of_exec_eq_respond (by rw [exec_hmix32, hmix32_eq_m3X32Body, hword, hacc])
  exact response_eq_of_answers hanswers (answers_of_exec_eq_respond (exec_m3X32B t)) hs ht

/-! ## The constants read back (spec/41_hmix64.md) -/

theorem hmix64_one (m : Fin 6) : hmix64 m 1 = ktab m := by
  rw [hmix64, show shiftMix 1 = 1#64 by decide, BitVec.one_mul]

theorem hmix64Instr_answers_one (m : Fin 6) {s : State} (hone : s.captured.x0 = 1) :
    Answers (hmix64Instr m) s (ktab m) 0 :=
  answers_of_exec_eq_respond (by rw [exec_hmix64Instr, hone, hmix64_one])

/-- Settles O45: the shift-xor of 1 is 1, so what is left is the entry of `KTAB`. -/
theorem constantsReadBack : Obligations.ConstantsReadBack := fun _ hone =>
  ⟨hmix64Instr_answers_one 0 hone, hmix64Instr_answers_one 1 hone, hmix64Instr_answers_one 2 hone,
    hmix64Instr_answers_one 3 hone, hmix64Instr_answers_one 4 hone, hmix64Instr_answers_one 5 hone⟩

/-! ## HL16 from HMIX64 (spec/42_hl16.md) -/

theorem hmix64_S (v : Word64) : hmix64 0 v = shiftMix v := BitVec.mul_one _

theorem hl16_eq_hmix64 (u v : Word64) :
    hl16 u v = hmix64 5 ((v ^^^ hmix64 0 ((u ^^^ v) * kmul)) * kmul) := by
  rw [hmix64_S]
  rfl

/-- Settles O48: the first transaction gives the first round, the second the rest. -/
theorem hl16ByHmix64 : Obligations.Hl16ByHmix64 := by
  intro u v p q r p' q' r' hp hp' hq hq' hu hv hr'
  have hfirst : p'.y0 = hmix64 0 ((u ^^^ v) * kmul) := by
    rw [eq_respond_of_answers (answers_of_exec_eq_respond (exec_hmix64Instr 0 p)) hp', State.respond_y0, hp]
  have hsecond : Answers .hmix64Kmul q (hl16 u v) 0 :=
    answers_of_exec_eq_respond ((exec_hmix64Instr 5 q).trans (by rw [hq, hfirst, hl16_eq_hmix64]))
  have hwhole : Answers .hl16 r (hl16 u v) 0 := answers_of_exec_eq_respond (by rw [exec_hl16, hu, hv])
  exact response_eq_of_answers hwhole hsecond hr' hq'

/-! ## Bijections (spec/41_hmix64.md, spec/45_fmix.md) -/

/-- A shift-xor by at least one place loses nothing: the difference of two words it does not tell apart is its own
shift, so it is 0. -/
theorem xor_shiftRight_injective {w n : Nat} (hn : 0 < n) :
    Function.Injective fun v : BitVec w => v ^^^ (v >>> n) := by
  intro u v huv
  have hdiff : u ^^^ v = (u ^^^ v) >>> n := by
    rw [BitVec.ushiftRight_xor_distrib, ← BitVec.xor_eq_zero_iff]
    calc u ^^^ v ^^^ (u >>> n ^^^ v >>> n) = u ^^^ (u >>> n) ^^^ (v ^^^ (v >>> n)) := by ac_rfl
      _ = 0 := BitVec.xor_eq_zero_iff.mpr huv
  have hnat : (u ^^^ v).toNat = (u ^^^ v).toNat / 2 ^ n := by
    rw [← Nat.shiftRight_eq_div_pow, ← BitVec.toNat_ushiftRight, ← hdiff]
  have hlarge : 1 < 2 ^ n := Nat.one_lt_two_pow hn.ne'
  have hzero : (u ^^^ v).toNat = 0 := by
    by_contra hne
    exact (Nat.div_lt_self (Nat.pos_of_ne_zero hne) hlarge).ne hnat.symm
  exact BitVec.xor_eq_zero_iff.mp (BitVec.eq_of_toNat_eq hzero)

/-- A multiplication by a word that has an inverse loses nothing. -/
theorem mul_const_injective {w : Nat} {c c' : BitVec w} (hinv : c * c' = 1#w) :
    Function.Injective fun v : BitVec w => v * c :=
  Function.LeftInverse.injective (g := fun v => v * c') fun v => by
    simp only [BitVec.mul_assoc, hinv, BitVec.mul_one]

theorem shiftMix_injective : Function.Injective shiftMix := xor_shiftRight_injective (by decide)

/-- The avalanches are made of such steps; each multiplier is odd, and its inverse is the one given. -/
theorem fmix32_injective : Function.Injective fmix32 :=
  (xor_shiftRight_injective (n := 16) (by decide)).comp <|
    (mul_const_injective (c := f32M2) (c' := 0x7ed1b41d) (by decide)).comp <|
      (xor_shiftRight_injective (n := 13) (by decide)).comp <|
        (mul_const_injective (c := f32M1) (c' := 0xa5cb9243) (by decide)).comp <|
          xor_shiftRight_injective (n := 16) (by decide)

theorem fmix64_injective : Function.Injective fmix64 :=
  (xor_shiftRight_injective (n := 33) (by decide)).comp <|
    (mul_const_injective (c := f64M2) (c' := 0x9cb4b2f8129337db) (by decide)).comp <|
      (xor_shiftRight_injective (n := 33) (by decide)).comp <|
        (mul_const_injective (c := f64M1) (c' := 0x4f74430c22a54005) (by decide)).comp <|
          xor_shiftRight_injective (n := 33) (by decide)

theorem fmix32_eq_zero_iff (h : Word32) : fmix32 h = 0 ↔ h = 0 := fmix32_injective.eq_iff' (by decide)

theorem fmix64_eq_zero_iff (k : Word64) : fmix64 k = 0 ↔ k = 0 := fmix64_injective.eq_iff' (by decide)

/-- An operation that answers with an injective function of its operand word, in a field wide enough for it, answers
every word for one operand: on the finitely many words an injection is a bijection, and every word is the operand of
some block. -/
theorem existsUnique_operand {w : Nat} {i : Instr} {f : BitVec w → BitVec w} {operand : Word64 → BitVec w}
    {widen : BitVec w → Word64} (hf : Function.Injective f) (hoperand : Function.Surjective operand)
    (hwiden : Function.Injective widen)
    (hexec : ∀ s, exec i s = .next (s.respond (widen (f (operand s.captured.x0))) 0)) (y : BitVec w) :
    ∃! v, ∀ s : State, operand s.captured.x0 = v → Answers i s (widen y) 0 := by
  have hanswers (s : State) : Answers i s (widen y) 0 ↔ f (operand s.captured.x0) = y := by
    rw [answers_iff_of_exec_eq_respond (hexec s), hwiden.eq_iff, and_iff_left rfl]
  obtain ⟨v, hv, hunique⟩ := (Finite.injective_iff_bijective.mp hf).existsUnique y
  refine ⟨v, fun s hs => (hanswers s).mpr (hs ▸ hv), fun u hu => hunique u ?_⟩
  obtain ⟨x0, rfl⟩ := hoperand u
  exact (hanswers (State.reset.holding ⟨0, x0, 0, 0, 0, 0, 0⟩)).mp (hu _ rfl)

theorem lo32_surjective : Function.Surjective lo32 := fun v => ⟨zext64 v, lo32_zext64 v⟩

theorem zext64_injective : Function.Injective zext64 := Function.LeftInverse.injective lo32_zext64

theorem exec_hmix64S (s : State) : exec .hmix64S s = .next (s.respond (shiftMix s.captured.x0) 0) :=
  (exec_hmix64Instr 0 s).trans (by rw [hmix64_S])

/-- Settles O46: the shift-xor is injective, and mode `.S` answers with it. -/
theorem shiftMixBijective : Obligations.ShiftMixBijective :=
  existsUnique_operand shiftMix_injective Function.surjective_id Function.injective_id exec_hmix64S

/-- Settles O47: both avalanches are injective and give 0 for 0. -/
theorem avalanchesBijective : Obligations.AvalanchesBijective := by
  refine ⟨existsUnique_operand fmix32_injective lo32_surjective zext64_injective exec_fmix32,
    existsUnique_operand fmix64_injective Function.surjective_id Function.injective_id exec_fmix64,
    fun s => ?_, fun s => ?_⟩
  · rw [answers_iff_of_exec_eq_respond (exec_fmix32 s), and_iff_left rfl, ← fmix32_eq_zero_iff]
    exact zext64_injective.eq_iff (b := 0)
  · rw [answers_iff_of_exec_eq_respond (exec_fmix64 s), and_iff_left rfl, fmix64_eq_zero_iff]

/-! ## Lengths: bands, blocks, tail commands (spec/46_ldmux.md sections 1 and 4) -/

theorem y0_le_of_answers {i : Instr} {s t s' t' : State} {m n : Nat} {y1 z1 : Word64}
    (hs : Answers i s (BitVec.ofNat 64 m) y1) (ht : Answers i t (BitVec.ofNat 64 n) z1) (hs' : exec i s = .next s')
    (ht' : exec i t = .next t') (hmn : m ≤ n) (hn : n < 4) : s'.y0.toNat ≤ t'.y0.toNat := by
  rw [eq_respond_of_answers hs hs', eq_respond_of_answers ht ht', State.respond_y0, State.respond_y0,
    BitVec.toNat_ofNat, BitVec.toNat_ofNat]
  omega

/-- Settles O51: each band is a chain of thresholds that rise with the bands, and there are at most four bands. -/
theorem bandsMonotone : Obligations.BandsMonotone := by
  intro i s t s' t' hi hle hs' ht'
  obtain ⟨-, -, -, -, -, hbands⟩ := ldmuxBandResults
  obtain ⟨hs32, hs64, hs128S, hsMur, hs128U⟩ := hbands s
  obtain ⟨ht32, ht64, ht128S, htMur, ht128U⟩ := hbands t
  simp only [List.mem_cons, List.not_mem_nil, or_false] at hi
  rcases hi with rfl | rfl | rfl | rfl | rfl
  · exact y0_le_of_answers hs32 ht32 hs' ht' (by split_ifs <;> omega) (by split_ifs <;> decide)
  · exact y0_le_of_answers hs64 ht64 hs' ht' (by split_ifs <;> omega) (by split_ifs <;> decide)
  · exact y0_le_of_answers hs128S ht128S hs' ht' (by split_ifs <;> omega) (by split_ifs <;> decide)
  · exact y0_le_of_answers hsMur htMur hs' ht' (by split_ifs <;> omega) (by split_ifs <;> decide)
  · exact y0_le_of_answers hs128U ht128U hs' ht' (by split_ifs <;> omega) (by split_ifs <;> decide)

/-- `Y[0]` of a Murmur3 mode: the remainder in bits 3:0 and again in bits 11:8 (spec/46_ldmux.md R85). -/
def remainderWord (r : Nat) : Word64 := BitVec.ofNat 64 (r + 256 * r)

theorem remainderWord_toNat {r : Nat} (hr : r < 16) : (remainderWord r).toNat = r + 256 * r := by
  rw [remainderWord, BitVec.toNat_ofNat]
  omega

/-- A Murmur3 mode answers with the remainder and the number of blocks of `L` bytes of its length. -/
def SplitsLength (i : Instr) (L : Nat) : Prop :=
  0 < L ∧ L ≤ 16 ∧ ∀ s : State,
    Answers i s (remainderWord (s.captured.x0.toNat % L)) (BitVec.ofNat 64 (s.captured.x0.toNat / L))

theorem splitsLength_of_exec {i : Instr} {bits : Nat} (hbits : bits ≤ 4)
    (hexec : ∀ s, exec i s = blocksRespond bits s) :
    SplitsLength i (2 ^ bits) :=
  ⟨Nat.two_pow_pos bits, Nat.pow_le_pow_right (by decide) hbits, fun s =>
    answers_of_exec_eq_respond ((hexec s).trans (blocksRespond_eq (by omega) s))⟩

theorem ldmuxM32_splits : SplitsLength .ldmuxM32 4 := splitsLength_of_exec (bits := 2) (by decide) exec_ldmuxM32
theorem ldmuxM86_splits : SplitsLength .ldmuxM86 16 := splitsLength_of_exec (bits := 4) (by decide) exec_ldmuxM86
theorem ldmuxM64_splits : SplitsLength .ldmuxM64 16 := splitsLength_of_exec (bits := 4) (by decide) exec_ldmuxM64

/-- The two registers after such a mode, as numbers. -/
theorem SplitsLength.results {i : Instr} {L : Nat} (h : SplitsLength i L) {s t : State} (ht : exec i s = .next t) :
    t.y0 = remainderWord (s.captured.x0.toNat % L) ∧ t.y1.toNat = s.captured.x0.toNat / L := by
  obtain ⟨-, -, hanswers⟩ := h
  rw [eq_respond_of_answers (hanswers s) ht]
  refine ⟨rfl, ?_⟩
  rw [State.respond_y1, BitVec.toNat_ofNat, Nat.mod_eq_of_lt ((Nat.div_le_self ..).trans_lt (BitVec.isLt _))]

theorem SplitsLength.covers {i : Instr} {L : Nat} (h : SplitsLength i L) {s t : State} (ht : exec i s = .next t) :
    L * t.y1.toNat + t.y0.toNat % 16 = s.captured.x0.toNat ∧ t.y0.toNat % 16 < L ∧
      ∀ b, b < t.y1.toNat → L * b + L ≤ s.captured.x0.toNat := by
  obtain ⟨hrem, hblocks⟩ := h.results ht
  obtain ⟨hpos, hle, -⟩ := h
  have hlt : s.captured.x0.toNat % L < L := Nat.mod_lt _ hpos
  have hlow : t.y0.toNat % 16 = s.captured.x0.toNat % L := by
    rw [hrem, remainderWord_toNat (by omega)]
    omega
  rw [hlow, hblocks]
  refine ⟨Nat.div_add_mod .., hlt, fun b hb => ?_⟩
  calc L * b + L = L * (b + 1) := (Nat.mul_succ ..).symm
    _ ≤ L * (s.captured.x0.toNat / L) := Nat.mul_le_mul_left L hb
    _ ≤ s.captured.x0.toNat := Nat.mul_div_le ..

/-- Settles O52: quotient and remainder of the length by the block size. -/
theorem blocksCoverInput : Obligations.BlocksCoverInput := by
  intro i L s t hmode ht
  simp only [List.mem_cons, Prod.mk.injEq, List.not_mem_nil, or_false] at hmode
  rcases hmode with ⟨rfl, rfl⟩ | ⟨rfl, rfl⟩ | ⟨rfl, rfl⟩
  · exact ldmuxM32_splits.covers ht
  · exact ldmuxM86_splits.covers ht
  · exact ldmuxM64_splits.covers ht

/-- The word that one OR makes of a tail's own word and a remainder is the word of the tail with that REM: the REM field
of the base is 0, and the mask leaves only the remainder's copy (spec/46_ldmux.md section 1). -/
theorem tailCommand_eq {base : Instr} (hbase : base ∈ [Instr.m3X32T 0, .m3X86T 0, .m3X64T 0]) {r : Nat} (hr : r < 16) :
    tailCommand base (remainderWord r) = encode (base.withRem (BitVec.ofNat 4 r)) := by
  revert base
  interval_cases r <;> decide

theorem decode_tailCommand_m3X32T {r : Nat} (hr : r < 4) :
    decode (tailCommand (.m3X32T 0) (remainderWord r)) = .ok (.m3X32T (BitVec.ofNat 4 r)) := by
  rw [tailCommand_eq (by decide) (by omega)]
  exact decode_encode (by interval_cases r <;> rfl)

theorem decode_tailCommand_m3X86T {r : Nat} (hr : r < 16) :
    decode (tailCommand (.m3X86T 0) (remainderWord r)) = .ok (.m3X86T (BitVec.ofNat 4 r)) := by
  rw [tailCommand_eq (by decide) hr]
  exact decode_encode rfl

theorem decode_tailCommand_m3X64T {r : Nat} (hr : r < 16) :
    decode (tailCommand (.m3X64T 0) (remainderWord r)) = .ok (.m3X64T (BitVec.ofNat 4 r)) := by
  rw [tailCommand_eq (by decide) hr]
  exact decode_encode rfl

/-- Settles O54: each mode answers with the remainder, and the tail's word takes it as its REM. -/
theorem tailCommandFromLdmux : Obligations.TailCommandFromLdmux := by
  refine fun s t => ⟨fun ht => ?_, fun ht => ?_, fun ht => ?_⟩
  · rw [(ldmuxM32_splits.results ht).1]
    exact decode_tailCommand_m3X32T (Nat.mod_lt _ (by decide))
  · rw [(ldmuxM86_splits.results ht).1]
    exact decode_tailCommand_m3X86T (Nat.mod_lt _ (by decide))
  · rw [(ldmuxM64_splits.results ht).1]
    exact decode_tailCommand_m3X64T (Nat.mod_lt _ (by decide))

end Sys2Proof.Machine
end

section
namespace Sys2Proof.Machine

/-! ## The tail byte by byte (spec/44_m3mix.md section 5) -/

/-- The word that lane `j` accumulates from the bytes below `c`, for lanes of `L` bytes. -/
def laneWord {w : Nat} (L : Nat) (t : Nat → Byte) (j : Nat) : Nat → BitVec w
  | 0 => 0#w
  | c + 1 => laneWord L t j c ^^^ if c / L = j then (t c).setWidth w <<< (8 * (c % L)) else 0#w

/-- The bytes below the lane's first one leave nothing in it. -/
theorem laneWord_eq_zero {w L : Nat} (t : Nat → Byte) {j c : Nat} (hc : c ≤ L * j) :
    (laneWord L t j c : BitVec w) = 0#w := by
  induction c with
  | zero => rfl
  | succ c ih =>
    have hother : c / L ≠ j := (Nat.div_lt_of_lt_mul hc).ne
    rw [laneWord, ih (by omega), if_neg hother, BitVec.xor_zero]

/-- What the loop gives lane `j`: the lane is finalized once, at its first byte, with the word accumulated
before and its bytes below `c`; a lane that starts at `c` or above is not touched. -/
theorem reverseTail_lane {w L : Nat} (hL : 0 < L) (mix : Nat → BitVec w → BitVec w) (t : Nat → Byte) (c : Nat)
    (k h : Nat → BitVec w) (j : Nat) :
    reverseTail L mix t c k h j = if L * j < c then h j ^^^ mix j (k j ^^^ laneWord L t j c) else h j := by
  induction c generalizing k h with
  | zero => rfl
  | succ c ih =>
    have hdiv := Nat.div_add_mod c L
    rw [reverseTail, ih]
    by_cases hj : c / L = j
    · subst hj
      have hstarted : L * (c / L) < c + 1 := by omega
      by_cases hfirst : c % L = 0
      · have hlast : ¬L * (c / L) < c := by omega
        have hempty : (laneWord L t (c / L) c : BitVec w) = 0#w := laneWord_eq_zero t (by omega)
        simp [hstarted, hlast, hfirst, laneWord, hempty]
      · have hopen : L * (c / L) < c := by omega
        simp only [hstarted, hopen, hfirst, laneWord, if_true, if_false, Function.update_self]
        ac_rfl
    · have hnotFirst : L * j ≠ c := fun hfirst => hj (hfirst ▸ Nat.mul_div_cancel_left j hL)
      have hstarted : L * j < c + 1 ↔ L * j < c := by omega
      by_cases hfirst : c % L = 0 <;>
        simp only [hstarted, laneWord, hfirst, if_true, if_false, if_neg hj, BitVec.xor_zero,
          Function.update_of_ne (Ne.symm hj)]

/-- Byte `c` at its place in its lane, seen from lane `j`: bit `b` of the lane is one of its bits when `c` is the byte
of the lane that holds that bit. -/
theorem getLsbD_placed_byte {w L : Nat} (hw : w = 8 * L) (T : BitVec 128) {j c b : Nat} (hb : b < w) :
    (if c / L = j then (T.extractLsb' (8 * c) 8).setWidth w <<< (8 * (c % L)) else 0#w).getLsbD b =
      (decide (L * j + b / 8 = c) && T.getLsbD (8 * (L * j) + b)) := by
  have hdiv := Nat.div_add_mod c L
  have hbyte : b / 8 < L := by omega
  split
  · next hj =>
    subst hj
    by_cases hplace : L * (c / L) + b / 8 = c
    · have hindex : 8 * c + (b - 8 * (c % L)) = 8 * (L * (c / L)) + b := by omega
      have hlow : ¬b < 8 * (c % L) := by omega
      have hhigh : b - 8 * (c % L) < 8 := by omega
      simp [hplace, hb, hindex, hlow, hhigh]
    · have hout : b < 8 * (c % L) ∨ ¬b - 8 * (c % L) < 8 := by omega
      rcases hout with hlow | hhigh
      · simp [hplace, hlow]
      · simp [hplace, hhigh]
  · next hj =>
    have hplace : L * j + b / 8 ≠ c := by
      rintro rfl
      exact hj (by rw [Nat.mul_add_div (by omega), Nat.div_eq_of_lt hbyte, Nat.add_zero])
    simp [hplace]

theorem getLsbD_laneWord {w L : Nat} (hw : w = 8 * L) (T : BitVec 128) {j c b : Nat} (hb : b < w) :
    (laneWord L (fun i => T.extractLsb' (8 * i) 8) j c : BitVec w).getLsbD b =
      (decide (L * j + b / 8 < c) && T.getLsbD (8 * (L * j) + b)) := by
  induction c with
  | zero => simp [laneWord]
  | succ c ih =>
    rw [laneWord, BitVec.getLsbD_xor, ih, getLsbD_placed_byte hw T hb]
    rcases Nat.lt_trichotomy (L * j + b / 8) c with hlt | heq | hgt
    · simp [hlt, hlt.ne, Nat.lt_succ_of_lt hlt]
    · simp [heq]
    · simp [hgt.ne', Nat.not_lt.mpr hgt.le, Nat.not_lt.mpr (Nat.succ_le_of_lt hgt)]

theorem getLsbD_maskBytes {w : Nat} (v : BitVec w) (r b : Nat) :
    (maskBytes v r).getLsbD b = (decide (b < 8 * r) && v.getLsbD b) := by
  by_cases hb : b < w
  · rw [maskBytes, BitVec.getLsbD_and, BitVec.getLsbD_ofNat, Nat.testBit_two_pow_sub_one, decide_eq_true hb,
      Bool.true_and, Bool.and_comm]
  · simp [BitVec.getLsbD_of_ge _ _ (Nat.le_of_not_lt hb)]

/-- The word the loop finalizes lane `j` with is the lane of the masked tail: the bytes at and above REM are
never read. -/
theorem laneWord_eq_tail128 {w L : Nat} (hw : w = 8 * L) (r : Request) (rem : BitVec 4) (j : Nat) :
    laneWord L (tailByte r) j rem.toNat = (tail128 r rem).extractLsb' (8 * (L * j)) w := by
  apply BitVec.eq_of_getLsbD_eq
  intro b hb
  have hbits := getLsbD_laneWord hw (r.x3 ++ r.x2 : BitVec 128) (j := j) (c := rem.toNat) hb
  have hbelow : 8 * (L * j) + b < 8 * rem.toNat ↔ L * j + b / 8 < rem.toNat := by omega
  rw [BitVec.getLsbD_extractLsb', tail128, getLsbD_maskBytes, decide_eq_true hb, Bool.true_and,
    decide_eq_decide.mpr hbelow]
  exact hbits

/-- A lane of the tail that starts at REM or above is 0. -/
theorem tail128_lane_eq_zero (r : Request) {rem : BitVec 4} {i : Nat} (h : 8 * rem.toNat ≤ i) (w : Nat) :
    (tail128 r rem).extractLsb' i w = 0#w := by
  have hbound : ∀ n, n % 2 ^ (8 * rem.toNat) < 2 ^ i := fun n =>
    (Nat.mod_lt n (Nat.two_pow_pos _)).trans_le (Nat.pow_le_pow_right (by decide) h)
  rw [tail128_lane, Nat.div_eq_of_lt (hbound _)]

/-- The loop over the tail, started with nothing accumulated: each lane is mixed with its lane of the tail, one that
receives no byte too, for the mixes give 0 for 0 (spec/44_m3mix.md R71, R75, R79). -/
theorem reverseTail_eq {w L : Nat} (hL : 0 < L) (hw : w = 8 * L) {mix : Nat → BitVec w → BitVec w}
    (hmix : ∀ j, mix j 0#w = 0#w) (r : Request) (rem : BitVec 4) (h : Nat → BitVec w) (j : Nat) :
    reverseTail L mix (tailByte r) rem.toNat (fun _ => 0) h j =
      h j ^^^ mix j ((tail128 r rem).extractLsb' (8 * (L * j)) w) := by
  rw [reverseTail_lane hL, laneWord_eq_tail128 hw]
  split
  · simp only [BitVec.ofNat_eq_ofNat, BitVec.zero_xor]
  · next hj => rw [tail128_lane_eq_zero r (by omega) w, hmix, BitVec.xor_zero]

theorem kmX32_zero : kmX32 0#32 = 0#32 := by decide

theorem laneMixX86_zero (j : Nat) : laneMixX86 j 0#32 = 0#32 := by
  unfold laneMixX86
  split <;> decide

theorem laneMixX64_zero (j : Nat) : laneMixX64 j 0#64 = 0#64 := by
  unfold laneMixX64
  split <;> decide

/-- Below 4 bytes the low lane of the 128-bit tail is the tail of M3.X32.T. -/
theorem tail128_low_lane (r : Request) {rem : BitVec 4} (hrem : rem.toNat < 4) :
    (tail128 r rem).extractLsb' 0 32 = maskBytes (lo32 r.x2) rem.toNat := by
  have hdvd : 2 ^ (8 * rem.toNat) ∣ 2 ^ 64 := Nat.pow_dvd_pow 2 (by omega)
  rw [tail128_lane, maskBytes_lo32_eq_ofNat r.x2 hrem, pow_zero, Nat.div_one, Nat.add_mod,
    Nat.mod_eq_zero_of_dvd (hdvd.mul_left r.x3.toNat), Nat.zero_add, Nat.mod_mod]

/-- Settles O49: lane by lane the loop mixes what the one step mixes. -/
theorem tailIsReverseLoop : Obligations.TailIsReverseLoop := by
  intro s rem t x86 x64 x32
  have hx86 (j : Nat) := reverseTail_eq (L := 4) (by decide) rfl laneMixX86_zero s.captured rem (lanesX86 s.captured) j
  have hx64 (j : Nat) := reverseTail_eq (L := 8) (by decide) rfl laneMixX64_zero s.captured rem (lanesX64 s.captured) j
  have hx32 := reverseTail_eq (L := 4) (by decide) rfl (fun _ => kmX32_zero) s.captured rem (lanesX86 s.captured) 0
  refine ⟨?_, ?_, fun hrem => ?_⟩
  · simp only [x86, t, hx86]
    exact answers_of_exec_eq_respond (exec_m3X86T rem s)
  · simp only [x64, t, hx64]
    exact answers_of_exec_eq_respond (exec_m3X64T rem s)
  · simp only [x32, t, hx32, Nat.mul_zero, tail128_low_lane s.captured hrem]
    exact answers_of_exec_eq_respond (exec_m3X32T_of_lt hrem s)

/-! ## Lanes without a tail byte (spec/44_m3mix.md sections 2 to 4) -/

/-- Settles O50: the lane of the tail is 0, the mixes give 0 for it, and the exclusive-or leaves the lane. -/
theorem untouchedLanesPass : Obligations.UntouchedLanesPass := by
  intro s t rem
  refine ⟨fun ht => ?_, fun ht => ?_, fun ht hrem => ?_⟩
  · have hzero (i : Nat) (h : 8 * rem.toNat ≤ i) := tail128_lane_eq_zero s.captured h 32
    rw [← Host.Outcome.next.inj ((exec_m3X86T rem s).symm.trans ht)]
    simp only [State.respond_y0, State.respond_y1, lo32_pack, hi32_pack]
    refine ⟨fun h => ?_, fun h => ?_, fun h => ?_, fun h => ?_⟩
    · rw [hzero 0 (by omega), show km1 0#32 = 0#32 by decide, BitVec.xor_zero]
    · rw [hzero 32 (by omega), show km2 0#32 = 0#32 by decide, BitVec.xor_zero]
    · rw [hzero 64 (by omega), show km3 0#32 = 0#32 by decide, BitVec.xor_zero]
    · rw [hzero 96 (by omega), show km4 0#32 = 0#32 by decide, BitVec.xor_zero]
  · have hzero (i : Nat) (h : 8 * rem.toNat ≤ i) := tail128_lane_eq_zero s.captured h 64
    rw [← Host.Outcome.next.inj ((exec_m3X64T rem s).symm.trans ht)]
    simp only [State.respond_y0, State.respond_y1]
    refine ⟨fun h => ?_, fun h => ?_⟩
    · rw [hzero 0 (by omega), show qm1 0#64 = 0#64 by decide, BitVec.xor_zero]
    · rw [hzero 64 (by omega), show qm2 0#64 = 0#64 by decide, BitVec.xor_zero]
  · rw [← Host.Outcome.next.inj ((exec_m3X32T_of_lt (by omega) s).symm.trans ht), State.respond_y0, m3X32Tail, hrem,
      maskBytes_zero, show kmX32 0 = 0#32 by decide, BitVec.xor_zero]

end Sys2Proof.Machine
end

section
namespace Sys2Proof.Machine

/-! ## The bits an operation reads (spec/30_encoding.md R36, R38) -/

theorem getLsbD_and_lowBits (v : Word64) (k b : Nat) :
    (v &&& lowBits k).getLsbD b = (decide (b < k) && v.getLsbD b) := by
  by_cases hb : b < 64
  · rw [lowBits, BitVec.getLsbD_and, BitVec.getLsbD_ofNat, Nat.testBit_two_pow_sub_one, decide_eq_true hb,
      Bool.true_and, Bool.and_comm]
  · simp [BitVec.getLsbD_of_ge _ _ (Nat.le_of_not_lt hb)]

theorem and_lowBits_64 (v : Word64) : v &&& lowBits 64 = v := by
  rw [show lowBits 64 = BitVec.allOnes 64 by decide, BitVec.and_allOnes]

/-- A `u32` operand is the low half of its field. -/
theorem lo32_and_lowBits (v : Word64) : lo32 (v &&& lowBits 32) = lo32 v := by
  apply BitVec.eq_of_getLsbD_eq
  intro b hb
  simp only [lo32, BitVec.getLsbD_extractLsb', getLsbD_and_lowBits, Nat.zero_add, hb, decide_true, Bool.true_and]

/-- Of a 32-bit tail the bytes below REM. -/
theorem maskBytes_lo32_and_lowBits (v : Word64) (r : Nat) :
    maskBytes (lo32 (v &&& lowBits (8 * r))) r = maskBytes (lo32 v) r := by
  apply BitVec.eq_of_getLsbD_eq
  intro b hb
  simp only [getLsbD_maskBytes, lo32, BitVec.getLsbD_extractLsb', getLsbD_and_lowBits, Nat.zero_add, hb, decide_true,
    Bool.true_and, Bool.and_self_left]

/-- Of a 128-bit tail the bytes below REM, those of `X[2]` first. -/
theorem tail128_of_lowBits {r q : Request} {rem : BitVec 4} (hlow : q.x2 = r.x2 &&& lowBits (min 64 (8 * rem.toNat)))
    (hhigh : q.x3 = r.x3 &&& lowBits (8 * rem.toNat - 64)) : tail128 q rem = tail128 r rem := by
  apply BitVec.eq_of_getLsbD_eq
  intro b _
  rw [tail128, tail128, getLsbD_maskBytes, getLsbD_maskBytes, BitVec.getLsbD_append, BitVec.getLsbD_append, hlow, hhigh,
    getLsbD_and_lowBits, getLsbD_and_lowBits]
  by_cases hrem : b < 8 * rem.toNat
  · have hin : b < 64 → b < min 64 (8 * rem.toNat) := by omega
    have hin' : ¬b < 64 → b - 64 < 8 * rem.toNat - 64 := by omega
    split
    · next hb => simp [hin hb]
    · next hb => simp [hin' hb]
  · simp [hrem]

/-- A request of the fields in a list. -/
def requestOf (fields : List Word64) : Request :=
  ⟨0, fields.getD 0 0, fields.getD 1 0, fields.getD 2 0, fields.getD 3 0, fields.getD 4 0, fields.getD 5 0⟩

/-- What `exec i` answers, as a response. -/
def responseOf (i : Instr) (s : State) : Option Response :=
  match exec i s with
  | .next t => some t.response
  | .fault _ | .refused _ => none

theorem responseOf_of_exec {i : Instr} {s t : State} (h : exec i s = .next t) : responseOf i s = some t.response := by
  rw [responseOf, h]

/-- A block with the parameters of `s` that has captured what the operation sees of the request of `s`, and nothing
more. -/
def State.asSeenBy (s : State) (i : Instr) : State :=
  (State.resetWith s.params).holding (requestOf (Machine.seenBy i s.captured))

/-- What an operation does not see of a request has no part in its response. -/
theorem responseOf_asSeenBy (i : Instr) (s : State) : responseOf i (s.asSeenBy i) = responseOf i s := by
  cases i
  case hmix32 =>
    have ha : lo32 (s.asSeenBy .hmix32).captured.x0 = lo32 s.captured.x0 := lo32_and_lowBits _
    have hh : lo32 (s.asSeenBy .hmix32).captured.x1 = lo32 s.captured.x1 := lo32_and_lowBits _
    simp only [responseOf, exec_hmix32, ha, hh]
    rfl
  case fmix32 =>
    have hh : lo32 (s.asSeenBy .fmix32).captured.x0 = lo32 s.captured.x0 := lo32_and_lowBits _
    simp only [responseOf, exec_fmix32, hh]
    rfl
  case m3X32B =>
    have hh : lo32 (s.asSeenBy .m3X32B).captured.x0 = lo32 s.captured.x0 := lo32_and_lowBits _
    have hk : lo32 (s.asSeenBy .m3X32B).captured.x2 = lo32 s.captured.x2 := lo32_and_lowBits _
    simp only [responseOf, exec_m3X32B, hh, hk]
    rfl
  case m3X32T rem =>
    have hh : lo32 (s.asSeenBy (.m3X32T rem)).captured.x0 = lo32 s.captured.x0 := lo32_and_lowBits _
    have ht : maskBytes (lo32 (s.asSeenBy (.m3X32T rem)).captured.x2) rem.toNat =
        maskBytes (lo32 s.captured.x2) rem.toNat := maskBytes_lo32_and_lowBits _ _
    rcases Nat.lt_or_ge rem.toNat 4 with hrem | hrem
    · simp only [responseOf, exec_m3X32T_of_lt hrem, m3X32Tail, hh, ht]
      rfl
    · simp only [responseOf, exec_m3X32T_of_le hrem]
      rfl
  case m3X86T rem =>
    have h0 : (s.asSeenBy (.m3X86T rem)).captured.x0 = s.captured.x0 := and_lowBits_64 _
    have h1 : (s.asSeenBy (.m3X86T rem)).captured.x1 = s.captured.x1 := and_lowBits_64 _
    have ht : tail128 (s.asSeenBy (.m3X86T rem)).captured rem = tail128 s.captured rem := tail128_of_lowBits rfl rfl
    simp only [responseOf, exec_m3X86T, h0, h1, ht]
    rfl
  case m3X64T rem =>
    have h0 : (s.asSeenBy (.m3X64T rem)).captured.x0 = s.captured.x0 := and_lowBits_64 _
    have h1 : (s.asSeenBy (.m3X64T rem)).captured.x1 = s.captured.x1 := and_lowBits_64 _
    have ht : tail128 (s.asSeenBy (.m3X64T rem)).captured rem = tail128 s.captured rem := tail128_of_lowBits rfl rfl
    simp only [responseOf, exec_m3X64T, h0, h1, ht]
    rfl
  all_goals
    simp only [State.asSeenBy, seenBy, operandFields, readBits, List.zipWith_cons_cons, and_lowBits_64]
    rfl

/-- Settles O8: equal operands seen make one block, whose response is that of both. -/
theorem operandBitsIgnored : Obligations.OperandBitsIgnored := by
  intro i s t s' t' hparams hseen hs ht
  have hsame : s.asSeenBy i = t.asSeenBy i := by rw [State.asSeenBy, State.asSeenBy, hparams, hseen]
  apply Option.some.inj
  rw [← responseOf_of_exec hs, ← responseOf_of_exec ht, ← responseOf_asSeenBy, hsame, responseOf_asSeenBy]

end Sys2Proof.Machine
end

section
namespace Sys2Proof.Machine

/-! ## What a host sequence ends with (spec/47_composition.md section 6) -/

/-- From every block that meets `pre` the sequence ends with `o`, and where `o` is a value, on a block that meets
`post`. -/
def Ends {α : Type} (pre post : State → Prop) (p : HostRun α) (o : Host.Outcome α Fault Refusal) : Prop :=
  ∀ s, pre s →
    match o with
    | .next a => ∃ t, p s = .next (t, a) ∧ post t
    | .fault f => p s = .fault f
    | .refused q => p s = .refused q

theorem Ends.weaken {α : Type} {pre pre' post : State → Prop} {p : HostRun α} {o : Host.Outcome α Fault Refusal}
    (hpre : ∀ s, pre' s → pre s) (h : Ends pre post p o) : Ends pre' post p o :=
  fun s hs => h s (hpre s hs)

theorem ends_hostValue {α : Type} {pre : State → Prop} (a : α) : Ends pre pre (hostValue a) (.next a) :=
  fun s hs => ⟨s, rfl, hs⟩

theorem ends_hostRefuse {α : Type} {pre post : State → Prop} (q : Refusal) :
    Ends pre post (hostRefuse q : HostRun α) (.refused q) :=
  fun _ _ => rfl

theorem ends_hostFetch {α : Type} {pre : State → Prop} (o : Host.Outcome α Fault Refusal) :
    Ends pre pre (hostFetch o) o := by
  intro s hs
  cases o with
  | next a => exact ⟨s, rfl, hs⟩
  | fault f => rfl
  | refused q => rfl

theorem Ends.andThen {α β : Type} {pre mid post : State → Prop} {p : HostRun α} {f : α → HostRun β} {a : α}
    {o : Host.Outcome β Fault Refusal} (hp : Ends pre mid p (.next a)) (hf : Ends mid post (f a) o) :
    Ends pre post (andThen p f) o := by
  intro s hs
  obtain ⟨t, ht, hmid⟩ := hp s hs
  have hrest : Machine.andThen p f s = f a t := by rw [Machine.andThen, ht]
  rw [hrest]
  exact hf t hmid

theorem Ends.andThen_of_fault {α β : Type} {pre mid post : State → Prop} {p : HostRun α} {f : α → HostRun β} {g : Fault}
    (hp : Ends pre mid p (.fault g)) : Ends pre post (Machine.andThen p f) (.fault g) := by
  intro s hs
  have hstop : p s = .fault g := hp s hs
  simp only [Machine.andThen, hstop]

theorem Ends.andThen_of_refused {α β : Type} {pre mid post : State → Prop} {p : HostRun α} {f : α → HostRun β}
    {q : Refusal} (hp : Ends pre mid p (.refused q)) : Ends pre post (Machine.andThen p f) (.refused q) := by
  intro s hs
  have hstop : p s = .refused q := hp s hs
  simp only [Machine.andThen, hstop]

/-! ## One transaction line (spec/30_encoding.md R45) -/

theorem callOp_of_execResponse {s : State} {r : Request} {a : Response} (hreset : s.sawReset = true)
    (ha : execResponse s.params r = some a) (herr : a.err = false) :
    ∃ t, callOp r s = .next (t, a) ∧ t.sawReset = true ∧ t.params = s.params ∧ t.phase = some .done ∧
      t.status.err = false := by
  obtain ⟨t, ht, htReset, hparams, hdone, hstatus, hread⟩ := transact_of_execResponse hreset ha
  refine ⟨t, ?_, htReset, hparams, hdone, by rw [hstatus]; exact herr⟩
  simp only [callOp, ht, hread, herr, Bool.false_eq_true, if_false]

theorem callOp_of_error {s : State} {r : Request} {a : Response} (hreset : s.sawReset = true)
    (ha : execResponse s.params r = some a) (herr : a.err = true) :
    callOp r s = .fault (.errorResponseSeen a.code) := by
  obtain ⟨t, ht, -, -, -, -, hread⟩ := transact_of_execResponse hreset ha
  simp only [callOp, ht, hread, herr, if_true]

/-! ## Blocks of one build: every sequence ends alike on them (spec/47_composition.md R126) -/

/-- A block built with `p` that has been reset, busy or not, whatever its registers hold. -/
def BuiltWith (p : Params) (s : State) : Prop := s.sawReset = true ∧ s.params = p

theorem ends_callOp {p : Params} {r : Request} {a : Response} (ha : execResponse p r = some a) (herr : a.err = false) :
    Ends (BuiltWith p) (BuiltWith p) (callOp r) (.next a) := by
  rintro s ⟨hreset, rfl⟩
  obtain ⟨t, ht, htReset, hparams, -⟩ := callOp_of_execResponse hreset ha herr
  exact ⟨t, ht, htReset, hparams⟩

theorem ends_callOp_of_error {p : Params} {r : Request} {a : Response} (ha : execResponse p r = some a)
    (herr : a.err = true) : Ends (BuiltWith p) (BuiltWith p) (callOp r) (.fault (.errorResponseSeen a.code)) := by
  rintro s ⟨hreset, rfl⟩
  exact callOp_of_error hreset ha herr

/-- The sequence ends alike on all blocks built with `p`. -/
def EndsAlike {α : Type} (p : Params) (run : HostRun α) : Prop := ∃ o, Ends (BuiltWith p) (BuiltWith p) run o

section
variable {α β : Type} {p : Params}

theorem endsAlike_hostValue (a : α) : EndsAlike p (hostValue a) := ⟨_, ends_hostValue a⟩

theorem endsAlike_hostRefuse (q : Refusal) : EndsAlike p (hostRefuse q : HostRun α) := ⟨_, ends_hostRefuse q⟩

theorem endsAlike_hostFetch (o : Host.Outcome α Fault Refusal) : EndsAlike p (hostFetch o) := ⟨o, ends_hostFetch o⟩

theorem endsAlike_andThen {run : HostRun α} {f : α → HostRun β} (hrun : EndsAlike p run) (hf : ∀ a, EndsAlike p (f a)) :
    EndsAlike p (andThen run f) := by
  obtain ⟨o, ho⟩ := hrun
  cases o with
  | next a =>
    obtain ⟨o', ho'⟩ := hf a
    exact ⟨o', ho.andThen ho'⟩
  | fault g => exact ⟨_, ho.andThen_of_fault⟩
  | refused q => exact ⟨_, ho.andThen_of_refused⟩

theorem endsAlike_ite {c : Prop} [Decidable c] {run run' : HostRun α} (h : EndsAlike p run) (h' : EndsAlike p run') :
    EndsAlike p (if c then run else run') := by
  split
  · exact h
  · exact h'

/-- A transaction line ends with `EXEC` of its request (spec/10_state.md section 2). -/
theorem endsAlike_callOp (r : Request) : EndsAlike p (callOp r) := by
  obtain ⟨a, ha, -⟩ := exists_execResponse p r
  cases herr : a.err with
  | false => exact ⟨_, ends_callOp ha herr⟩
  | true => exact ⟨_, ends_callOp_of_error ha herr⟩

/-- A script is made of fetches, transactions and the host's own arithmetic, and looks at nothing else. -/
theorem endsAlike_run {Op : Type} (instr : Op → Instr) (B : List Byte) (script : HostScript Op α) :
    EndsAlike p (script.run instr B) := by
  induction script with
  | value a => exact endsAlike_hostValue a
  | byte off next ih => exact endsAlike_andThen (endsAlike_hostFetch _) ih
  | word32 off next ih => exact endsAlike_andThen (endsAlike_hostFetch _) ih
  | word64 off next ih => exact endsAlike_andThen (endsAlike_hostFetch _) ih
  | call op x0 x1 x2 x3 x4 x5 next ih => exact endsAlike_andThen (endsAlike_callOp _) ih
  | refuse q => exact endsAlike_hostRefuse q

/-! A sequence that begins with a fetch, with a transaction line, with a script. -/

theorem endsAlike_afterFetch {o : Host.Outcome α Fault Refusal} {f : α → HostRun β} (hf : ∀ a, EndsAlike p (f a)) :
    EndsAlike p (andThen (hostFetch o) f) := endsAlike_andThen (endsAlike_hostFetch o) hf

theorem endsAlike_afterCall {r : Request} {f : Response → HostRun β} (hf : ∀ a, EndsAlike p (f a)) :
    EndsAlike p (andThen (callOp r) f) := endsAlike_andThen (endsAlike_callOp r) hf

theorem endsAlike_afterScript {Op : Type} {instr : Op → Instr} {B : List Byte} {script : HostScript Op α}
    {f : α → HostRun β} (hf : ∀ a, EndsAlike p (f a)) : EndsAlike p (andThen (script.run instr B) f) :=
  endsAlike_andThen (endsAlike_run instr B script) hf

end

theorem EndsAlike.answerOf_eq {α : Type} {p : Params} {run : HostRun α} (h : EndsAlike p run) {s t : State}
    (hs : BuiltWith p s) (ht : BuiltWith p t) : answerOf (run s) = answerOf (run t) := by
  obtain ⟨o, ho⟩ := h
  have hs' := ho s hs
  have ht' := ho t ht
  cases o with
  | next a =>
    obtain ⟨u, hu, -⟩ := hs'
    obtain ⟨v, hv, -⟩ := ht'
    rw [hu, hv]
    rfl
  | fault g => exact congrArg answerOf (hs'.trans ht'.symm)
  | refused q => exact congrArg answerOf (hs'.trans ht'.symm)

end Sys2Proof.Machine
end

section
namespace Sys2Proof.Machine

/-! ## The City sequences, each from its parts (spec/47_composition.md R110 to R125) -/

section
variable {p : Params}

theorem endsAlike_hmix32Chain (ws : List Word32) (h : Word32) : EndsAlike p (hmix32Chain ws h) := by
  induction ws generalizing h with
  | nil => exact endsAlike_hostValue h
  | cons w ws ih => exact endsAlike_afterCall fun _ => ih _

theorem endsAlike_cityFinish32 (ws : List Word32) (h : Word32) : EndsAlike p (cityFinish32 ws h) :=
  endsAlike_andThen (endsAlike_hmix32Chain ws h) fun _ =>
    endsAlike_afterCall fun _ => endsAlike_hostValue _

theorem endsAlike_cityBand1Hash32 (B : List Byte) : EndsAlike p (cityBand1Hash32 B) :=
  endsAlike_afterFetch fun _ => endsAlike_afterFetch fun _ => endsAlike_afterFetch fun _ => endsAlike_cityFinish32 _ _

theorem endsAlike_cityBand2Hash32 (B : List Byte) : EndsAlike p (cityBand2Hash32 B) :=
  endsAlike_afterFetch fun _ => endsAlike_afterFetch fun _ => endsAlike_afterFetch fun _ =>
    endsAlike_afterFetch fun _ => endsAlike_afterFetch fun _ => endsAlike_afterFetch fun _ => endsAlike_cityFinish32 _ _

theorem endsAlike_fetchStride32 (B : List Byte) (off : Nat) : EndsAlike p (fetchStride32 B off) :=
  endsAlike_afterFetch fun _ => endsAlike_afterFetch fun _ => endsAlike_afterFetch fun _ =>
    endsAlike_afterFetch fun _ => endsAlike_afterFetch fun _ => endsAlike_hostValue _

theorem endsAlike_cityStrides32 (long : CityLong32) (B : List Byte) (i : Nat) (offs : List Nat) (l : CityLanes32) :
    EndsAlike p (cityStrides32 long B i offs l) := by
  induction offs generalizing i l with
  | nil => exact endsAlike_hostValue l
  | cons off offs ih => exact endsAlike_andThen (endsAlike_fetchStride32 B off) fun _ => ih _ _

theorem endsAlike_cityLongHash32 (long : CityLong32) (B : List Byte) : EndsAlike p (cityLongHash32 long B) :=
  endsAlike_afterScript fun _ =>
    endsAlike_andThen (endsAlike_cityStrides32 long B _ _ _) fun _ => endsAlike_hostValue _

theorem endsAlike_cityChainHash32 {k : Nat} (B : List Byte) (script : CityScript32 (CityChain32 k)) :
    EndsAlike p (cityChainHash32 B script) :=
  endsAlike_afterScript fun _ => endsAlike_cityFinish32 _ _

theorem endsAlike_cityBandHash32 (rev : CityRev) (B : List Byte) (band : Word64) :
    EndsAlike p (cityBandHash32 rev B band) :=
  endsAlike_ite (endsAlike_cityFinish32 _ _) <| endsAlike_ite (endsAlike_cityBand1Hash32 B) <|
    endsAlike_ite (endsAlike_cityBand2Hash32 B) (endsAlike_cityLongHash32 _ B)

theorem endsAlike_citySeededBandHash32 (rev : CityRev) (seedUse : CitySeedUse32) (seed : Word32) (B : List Byte)
    (band : Word64) : EndsAlike p (citySeededBandHash32 rev seedUse seed B band) :=
  endsAlike_ite (endsAlike_cityChainHash32 B _) <| endsAlike_ite (endsAlike_cityChainHash32 B _) <|
    endsAlike_ite (endsAlike_cityChainHash32 B _) (endsAlike_cityLongHash32 _ B)

theorem endsAlike_cityHash32 (rev : CityRev) (seedUse : CitySeedUse32) (B : List Byte) (seed : Word32) :
    EndsAlike p (cityHash32 rev seedUse B seed) :=
  endsAlike_afterCall fun _ =>
    endsAlike_ite (endsAlike_cityBandHash32 rev B _) (endsAlike_citySeededBandHash32 rev seedUse seed B _)

theorem endsAlike_fetch32Bytes (B : List Byte) (off : Nat) : EndsAlike p (fetch32Bytes B off) :=
  endsAlike_afterFetch fun _ => endsAlike_afterFetch fun _ => endsAlike_afterFetch fun _ =>
    endsAlike_afterFetch fun _ => endsAlike_hostValue _

/-- A line of which the host takes a value: every one-operation call has this shape. -/
theorem endsAlike_call {α : Type} (r : Request) (f : Response → α) :
    EndsAlike p (andThen (callOp r) fun a => hostValue (f a)) :=
  endsAlike_afterCall fun _ => endsAlike_hostValue _

theorem endsAlike_callWh32 (w : Words32Bytes) (seeds : Pair64) : EndsAlike p (callWh32 w seeds) := endsAlike_call _ _
theorem endsAlike_callHl16 (u : Pair64) : EndsAlike p (callHl16 u) := endsAlike_call _ _
theorem endsAlike_callHmix64 (m : Fin 6) (v : Word64) : EndsAlike p (callHmix64 m v) := endsAlike_call _ _

theorem endsAlike_cityHalfStep (loop : CityLoop) (B : List Byte) (i off : Nat) (c : CityChunk) :
    EndsAlike p (cityHalfStep loop B i off c) :=
  endsAlike_afterFetch fun _ => endsAlike_afterFetch fun _ =>
    endsAlike_afterFetch fun _ => endsAlike_afterFetch fun _ =>
    endsAlike_andThen (endsAlike_fetch32Bytes B _) fun _ => endsAlike_andThen (endsAlike_callWh32 _ _) fun _ =>
      endsAlike_andThen (endsAlike_fetch32Bytes B _) fun _ => endsAlike_andThen (endsAlike_callWh32 _ _) fun _ =>
        endsAlike_hostValue _

theorem endsAlike_cityHalfSteps (loop : CityLoop) (B : List Byte) (i : Nat) (offs : List Nat) (c : CityChunk) :
    EndsAlike p (cityHalfSteps loop B i offs c) := by
  induction offs generalizing i c with
  | nil => exact endsAlike_hostValue c
  | cons off offs ih => exact endsAlike_andThen (endsAlike_cityHalfStep loop B i off c) fun _ => ih _ _

theorem endsAlike_cityCompress (f : CityFeed) : EndsAlike p (cityCompress f) := by
  unfold cityCompress
  split
  · exact endsAlike_callHl16 _
  · exact endsAlike_andThen (endsAlike_callHmix64 _ _) fun _ =>
      endsAlike_andThen (endsAlike_callHmix64 _ _) fun _ => endsAlike_hostValue _

theorem endsAlike_cityTinyHash64 (B : List Byte) : EndsAlike p (cityTinyHash64 B) :=
  endsAlike_afterFetch fun _ => endsAlike_afterFetch fun _ => endsAlike_afterFetch fun _ => endsAlike_call _ _

theorem endsAlike_cityBand0Hash64 (rev : CityRev) (B : List Byte) : EndsAlike p (cityBand0Hash64 rev B) :=
  endsAlike_ite (endsAlike_hostValue k2) <| endsAlike_ite (endsAlike_cityTinyHash64 B) <|
    endsAlike_afterScript endsAlike_cityCompress

theorem endsAlike_cityMidHash64 (B : List Byte) (script : CityScript64 Pair64) : EndsAlike p (cityMidHash64 B script) :=
  endsAlike_afterScript endsAlike_callHl16

theorem endsAlike_cityLongHash64 (long : CityLong64) (B : List Byte) : EndsAlike p (cityLongHash64 long B) :=
  endsAlike_afterScript fun _ => endsAlike_andThen (endsAlike_cityHalfSteps _ B _ _ _) fun _ =>
    endsAlike_afterScript fun _ => endsAlike_andThen (endsAlike_callHmix64 _ _) fun _ =>
      endsAlike_afterScript endsAlike_callHl16

theorem endsAlike_cityHash64 (rev : CityRev) (B : List Byte) : EndsAlike p (cityHash64 rev B) :=
  endsAlike_afterCall fun _ =>
    endsAlike_ite (endsAlike_cityBand0Hash64 rev B) <| endsAlike_ite (endsAlike_cityMidHash64 B _) <|
      endsAlike_ite (endsAlike_cityMidHash64 B _) (endsAlike_cityLongHash64 _ B)

theorem endsAlike_cityHash64WithSeeds (rev : CityRev) (B : List Byte) (seed0 seed1 : Word64) :
    EndsAlike p (cityHash64WithSeeds rev B seed0 seed1) :=
  endsAlike_andThen (endsAlike_cityHash64 rev B) fun _ => endsAlike_callHl16 _

theorem endsAlike_cityMurmurFinish (m : MurmurWords) : EndsAlike p (cityMurmurFinish m) :=
  endsAlike_andThen (endsAlike_callHl16 _) fun _ => endsAlike_andThen (endsAlike_callHl16 _) fun _ =>
    endsAlike_andThen (endsAlike_callHl16 _) fun _ => endsAlike_hostValue _

theorem endsAlike_cityMurmurShort (rev : CityRev) (sa sb : Word64) (B : List Byte) :
    EndsAlike p (cityMurmurShort rev sa sb B) :=
  endsAlike_andThen (endsAlike_callHmix64 _ _) fun _ => endsAlike_andThen (endsAlike_cityHash64 rev B) fun _ =>
    endsAlike_andThen (endsAlike_ite (endsAlike_hostFetch _) (endsAlike_hostValue _)) fun _ =>
      endsAlike_andThen (endsAlike_callHmix64 _ _) fun _ => endsAlike_cityMurmurFinish _

theorem endsAlike_cityMurmurStrides (long : CityMurmurLong) (B : List Byte) (i : Nat) (offs : List Nat)
    (m : MurmurWords) : EndsAlike p (cityMurmurStrides long B i offs m) := by
  induction offs generalizing i m with
  | nil => exact endsAlike_hostValue m
  | cons off offs ih =>
    exact endsAlike_afterFetch fun _ => endsAlike_andThen (endsAlike_callHmix64 _ _) fun _ =>
      endsAlike_afterFetch fun _ => endsAlike_andThen (endsAlike_callHmix64 _ _) fun _ => ih _ _

theorem endsAlike_cityMurmurLong (long : CityMurmurLong) (sa sb : Word64) (B : List Byte) :
    EndsAlike p (cityMurmurLong long sa sb B) :=
  endsAlike_afterScript fun _ =>
    endsAlike_andThen (endsAlike_cityMurmurStrides long B _ _ _) endsAlike_cityMurmurFinish

theorem endsAlike_cityMurmur (rev : CityRev) (sa sb : Word64) (B : List Byte) : EndsAlike p (cityMurmur rev sa sb B) :=
  endsAlike_afterCall fun _ =>
    endsAlike_ite (endsAlike_cityMurmurShort rev sa sb B) (endsAlike_cityMurmurLong _ sa sb B)

theorem endsAlike_cityTailSteps (long : CityLong128) (B : List Byte) (i : Nat) (offs : List Nat) (c : CityChunk) :
    EndsAlike p (cityTailSteps long B i offs c) := by
  induction offs generalizing i c with
  | nil => exact endsAlike_hostValue c
  | cons off offs ih =>
    exact endsAlike_andThen (endsAlike_fetch32Bytes B off) fun _ =>
      endsAlike_andThen (endsAlike_callWh32 _ _) fun _ => ih _ _

theorem endsAlike_cityNestedClose (long : CityLong128) (n : Nat) (q : CityClose) :
    EndsAlike p (cityNestedClose long n q) :=
  endsAlike_andThen (endsAlike_callHl16 _) fun _ => endsAlike_andThen (endsAlike_callHl16 _) fun _ =>
    endsAlike_andThen (endsAlike_callHl16 _) fun _ => endsAlike_andThen (endsAlike_callHl16 _) fun _ =>
      endsAlike_hostValue _

theorem endsAlike_cityLongHash128 (long : CityLong128) (sa sb : Word64) (B : List Byte) :
    EndsAlike p (cityLongHash128 long sa sb B) :=
  endsAlike_afterScript fun _ => endsAlike_andThen (endsAlike_cityHalfSteps _ B _ _ _) fun _ =>
    endsAlike_afterScript fun _ => endsAlike_andThen (endsAlike_cityTailSteps long B _ _ _) fun _ =>
      endsAlike_afterScript fun _ => endsAlike_cityNestedClose long _ _

theorem endsAlike_cityHash128WithSeed (rev : CityRev) (B : List Byte) (sa sb : Word64) :
    EndsAlike p (cityHash128WithSeed rev B sa sb) :=
  endsAlike_afterCall fun _ =>
    endsAlike_ite (endsAlike_cityMurmur rev sa sb B) (endsAlike_cityLongHash128 _ sa sb B)

theorem endsAlike_cityHash128 (rev : CityRev) (B : List Byte) : EndsAlike p (cityHash128 rev B) :=
  endsAlike_afterCall fun _ => endsAlike_ite (endsAlike_cityHash128WithSeed rev B _ _) <|
    endsAlike_ite
      (endsAlike_afterFetch fun _ => endsAlike_afterFetch fun _ =>
        endsAlike_cityHash128WithSeed rev _ _ _)
      (endsAlike_afterFetch fun _ => endsAlike_afterFetch fun _ =>
        endsAlike_cityHash128WithSeed rev _ _ _)

end

/-- Settles O57: each sequence is put together from fetches, transactions and the host's arithmetic, and each of these
ends alike on blocks of one build. -/
theorem citySequencesArePure : Obligations.CitySequencesArePure := by
  intro rev seedUse B s t hs ht hparams
  have hs' : BuiltWith t.params s := ⟨hs, hparams⟩
  have ht' : BuiltWith t.params t := ⟨ht, rfl⟩
  exact ⟨fun seed => (endsAlike_cityHash32 rev seedUse B seed).answerOf_eq hs' ht',
    (endsAlike_cityHash64 rev B).answerOf_eq hs' ht',
    fun seed0 seed1 => (endsAlike_cityHash64WithSeeds rev B seed0 seed1).answerOf_eq hs' ht',
    fun sa sb => (endsAlike_cityHash128WithSeed rev B sa sb).answerOf_eq hs' ht',
    (endsAlike_cityHash128 rev B).answerOf_eq hs' ht'⟩

end Sys2Proof.Machine
end

section
namespace Sys2Proof.Machine

/-! ## One half-step (spec/43_wh32.md R66, spec/47_composition.md R119) -/

/-- The little-endian word at `off`, as a number made of its bytes (spec/20_memory.md R27). -/
def wordAt (B : List Byte) (off : Nat) : Word64 :=
  BitVec.ofNat 64 ((List.range 8).map fun k => (B.getD (off + k) 0).toNat * 2 ^ (8 * k)).sum

theorem fetch64_eq_wordAt {B : List Byte} {off : Nat} (h : off + 8 ≤ B.length) :
    fetch64 B off = .next (wordAt B off) := by
  have hvalue := le64_toNat fun j => B.getD (off + j) 0
  rw [fetch64_inside h, wordAt, ← hvalue, BitVec.ofNat_toNat, BitVec.setWidth_eq]
  rfl

theorem ends_fetch64 {B : List Byte} {off : Nat} {pre : State → Prop} (h : off + 8 ≤ B.length) :
    Ends pre pre (hostFetch (fetch64 B off)) (.next (wordAt B off)) :=
  fetch64_eq_wordAt h ▸ ends_hostFetch _

/-- The four words of 32 bytes inside the input. -/
def words32At (B : List Byte) (off : Nat) : Words32Bytes :=
  ⟨wordAt B off, wordAt B (off + 8), wordAt B (off + 16), wordAt B (off + 24)⟩

theorem ends_fetch32Bytes {B : List Byte} {off : Nat} {pre : State → Prop} (h : off + 32 ≤ B.length) :
    Ends pre pre (fetch32Bytes B off) (.next (words32At B off)) :=
  (ends_fetch64 (by omega)).andThen <| (ends_fetch64 (by omega)).andThen <|
    (ends_fetch64 (by omega)).andThen <| (ends_fetch64 (by omega)).andThen <| ends_hostValue _

/-- One WH32 completes with the pair that is its response. -/
theorem exists_callWh32 (p : Params) (w : Words32Bytes) (seeds : Pair64) :
    ∃ v : Pair64, execResponse p (opRequest .wh32 w.w w.x w.y w.z seeds.1 seeds.2) = some ⟨v.1, v.2, false, 0⟩ ∧
      Ends (BuiltWith p) (BuiltWith p) (callWh32 w seeds) (.next v) := by
  obtain ⟨a, ha, -⟩ := exists_execResponse p (opRequest .wh32 w.w w.x w.y w.z seeds.1 seeds.2)
  have hstatus : ⟨true, a.err, a.code⟩ = statusOk :=
    (status_of_execResponse ha).trans (commandStatus_of_legal (decode_encode (i := .wh32) rfl))
  have herr : a.err = false := congrArg Status.err hstatus
  have hcode : a.code = 0 := congrArg Status.code hstatus
  have hresponse : a = ⟨a.y0, a.y1, false, 0⟩ := by rw [← herr, ← hcode]
  exact ⟨(a.y0, a.y1), by rw [ha, hresponse], (ends_callOp ha herr).andThen (ends_hostValue _)⟩

/-- Settles O58: the fetches give the words of the chunk, and each WH32 gives its response. -/
theorem halfStepRecomputesPairs : Obligations.HalfStepRecomputesPairs := by
  intro loop B i off c s hreset hchunk word words xyz c1 p
  obtain ⟨v, hv, hvEnds⟩ := exists_callWh32 s.params (words32At B off) p
  obtain ⟨w, hw, hwEnds⟩ := exists_callWh32 s.params (words32At B (off + 32))
    (loop.wSeeds B.length i c { c1 with v0 := v.1, v1 := v.2 } words)
  have hends : Ends (BuiltWith s.params) (BuiltWith s.params) (cityHalfStep loop B i off c)
      (.next ⟨xyz.2.2, xyz.2.1, xyz.1, v.1, v.2, w.1, w.2⟩) :=
    (ends_fetch64 (by omega)).andThen <| (ends_fetch64 (by omega)).andThen <|
      (ends_fetch64 (by omega)).andThen <| (ends_fetch64 (by omega)).andThen <|
        (ends_fetch32Bytes (by omega)).andThen <| hvEnds.andThen <|
          (ends_fetch32Bytes (by omega)).andThen <| hwEnds.andThen <| ends_hostValue _
  obtain ⟨t, ht, -⟩ := hends s ⟨hreset, rfl⟩
  exact ⟨t, _, ht, rfl, rfl, rfl, hv, hw⟩

end Sys2Proof.Machine
end

section
namespace Sys2Proof.Machine

/-! ## The Murmur3 sequences end with one digest (spec/47_composition.md sections 2 and 6) -/

/-- A block that has been reset, busy or not, however it was built. -/
def WasReset (s : State) : Prop := s.sawReset = true

/-- A block that has been reset and holds a response without error. -/
def Completed (s : State) : Prop := s.sawReset = true ∧ s.phase = some .done ∧ s.status.err = false

theorem wasReset_of_completed (s : State) (h : Completed s) : WasReset s := h.1

/-- Only WH32 depends on what the block was built with: every other operation gives a request one answer. -/
theorem exec_answers_of_ne_wh32 {i : Instr} (hi : i ≠ .wh32) (r : Request) :
    ∃ a, ∀ s : State, s.captured = r → exec i s = .next (s.answered a) := by
  refine ⟨(responseOf i (State.reset.holding r)).getD ⟨0, 0, false, 0⟩, ?_⟩
  rintro s rfl
  cases i
  case wh32 => exact absurd rfl hi
  case m3X32T rem =>
    rcases Nat.lt_or_ge rem.toNat 4 with hrem | hrem
    · simp only [responseOf, exec_m3X32T_of_lt hrem]
      rfl
    · simp only [responseOf, exec_m3X32T_of_le hrem]
      rfl
  all_goals rfl

/-- A legal command word, and the answer its operation gives on every block. -/
theorem ends_callOp_of_exec {r : Request} {i : Instr} {a : Response} (hdecode : decode r.cmd = .ok i)
    (hexec : ∀ s : State, s.captured = r → exec i s = .next (s.answered a)) :
    Ends WasReset Completed (callOp r) (.next a) := by
  intro s hreset
  obtain ⟨b, hb, hanswer⟩ := exists_execResponse s.params r
  have hab : b = a := by
    have hcomplete := hanswer ((State.resetWith s.params).holding r) rfl rfl
    rw [completeCaptured_of_legal hdecode, hexec _ rfl] at hcomplete
    exact (congrArg State.response (Host.Outcome.next.inj hcomplete)).symm
  have herr : b.err = false := congrArg Status.err
    ((status_of_execResponse hb).trans (commandStatus_of_legal hdecode))
  obtain ⟨t, ht, htReset, -, hdone, hstatus⟩ := callOp_of_execResponse hreset hb herr
  exact ⟨t, hab ▸ ht, htReset, hdone, hstatus⟩

/-- From every block that meets `pre` the sequence ends with one value, and on a block that has just completed a
transaction without error. -/
def Yields {α : Type} (pre : State → Prop) (p : HostRun α) : Prop := ∃ d, Ends pre Completed p (.next d)

section
variable {α β : Type} {pre : State → Prop}

theorem yields_hostValue (a : α) : Yields Completed (hostValue a) := ⟨a, ends_hostValue a⟩

theorem Ends.yields {p : HostRun α} {f : α → HostRun β} {a : α} (hp : Ends pre Completed p (.next a))
    (hf : Yields Completed (f a)) : Yields pre (Machine.andThen p f) := by
  obtain ⟨d, hd⟩ := hf
  exact ⟨d, hp.andThen hd⟩

theorem Yields.andThen {p : HostRun α} {f : α → HostRun β} (hp : Yields pre p) (hf : ∀ a, Yields Completed (f a)) :
    Yields pre (Machine.andThen p f) := by
  obtain ⟨a, ha⟩ := hp
  exact ha.yields (hf a)

theorem yields_callOp {r : Request} {i : Instr} (hdecode : decode r.cmd = .ok i) (hi : i ≠ .wh32) :
    Yields Completed (callOp r) := by
  obtain ⟨a, ha⟩ := exec_answers_of_ne_wh32 hi r
  exact ⟨a, (ends_callOp_of_exec hdecode ha).weaken wasReset_of_completed⟩

/-- The same for a request made of an operation and its operands. -/
theorem yields_opRequest {i : Instr} (hwf : i.wellFormed = true) (hi : i ≠ .wh32) (x0 x1 x2 x3 x4 x5 : Word64) :
    Yields Completed (callOp (opRequest i x0 x1 x2 x3 x4 x5)) := yields_callOp (decode_encode hwf) hi

theorem yields_fetch {o : Host.Outcome α Fault Refusal} (h : ∃ a, o = .next a) : Yields Completed (hostFetch o) := by
  obtain ⟨a, rfl⟩ := h
  exact ⟨a, ends_hostFetch _⟩

end

/-! ### The length decision, the blocks and the tail -/

theorem inputLength_toNat {B : List Byte} (hB : B.length < 2 ^ 64) : (inputLength B).toNat = B.length :=
  Nat.mod_eq_of_lt hB

theorem ends_lengthCall {i : Instr} {L : Nat} (h : SplitsLength i L) (hwf : i.wellFormed = true) {B : List Byte}
    (hB : B.length < 2 ^ 64) :
    Ends WasReset Completed (callOp (opRequest i (inputLength B)))
      (.next ⟨remainderWord (B.length % L), BitVec.ofNat 64 (B.length / L), false, 0⟩) := by
  refine ends_callOp_of_exec (decode_encode hwf) fun s hs => ?_
  obtain ⟨-, -, hanswers⟩ := h
  have hlength : s.captured.x0.toNat = B.length := by rw [hs]; exact inputLength_toNat hB
  rw [← hlength]
  exact hanswers s

theorem remainderWord_low {r : Nat} (hr : r < 16) : ((remainderWord r).extractLsb' 0 4).toNat = r := by
  rw [BitVec.extractLsb'_toNat, remainderWord_toNat hr, Nat.shiftRight_zero]
  omega

theorem blockCount_toNat {B : List Byte} (hB : B.length < 2 ^ 64) (L : Nat) :
    (BitVec.ofNat 64 (B.length / L)).toNat = B.length / L :=
  Nat.mod_eq_of_lt ((Nat.div_le_self ..).trans_lt hB)

/-- The bytes of a tail inside the input. -/
theorem fetchTail_inside {B : List Byte} {off r : Nat} (h : off + r ≤ B.length) : ∃ t, fetchTail B off r = .next t := by
  induction r with
  | zero => exact ⟨0, rfl⟩
  | succ r ih =>
    obtain ⟨t, ht⟩ := ih (by omega)
    exact ⟨_, by rw [fetchTail, ht, fetchByte_inside (by omega)]⟩

theorem yields_murmurBlocks32 {B : List Byte} {count i : Nat} (h : 4 * (i + count) ≤ B.length) (acc : Word32) :
    Yields Completed (murmurBlocks32 B count i acc) := by
  induction count generalizing i acc with
  | zero => exact yields_hostValue acc
  | succ count ih =>
    refine (yields_fetch ⟨_, fetch32_inside (by omega)⟩).andThen fun k => ?_
    exact (yields_opRequest (i := .m3X32B) rfl (by decide) ..).andThen fun a => ih (by omega) _

theorem yields_murmurBlocks128 {op : Instr} (hwf : op.wellFormed = true) (hop : op ≠ .wh32) {B : List Byte}
    {count i : Nat} (h : 16 * (i + count) ≤ B.length) (lanes : Word128Pair) :
    Yields Completed (murmurBlocks128 op B count i lanes) := by
  induction count generalizing i lanes with
  | zero => exact yields_hostValue lanes
  | succ count ih =>
    refine (yields_fetch ⟨_, fetch64_inside (by omega)⟩).andThen fun lo => ?_
    refine (yields_fetch ⟨_, fetch64_inside (by omega)⟩).andThen fun hi => ?_
    exact (yields_opRequest hwf hop ..).andThen fun a => ih (by omega) _

theorem yields_murmur3Hash32 {B : List Byte} (hB : B.length < 2 ^ 64) (seed : Word32) :
    Yields WasReset (murmur3Hash32 B seed) := by
  have hcount := blockCount_toNat hB 4
  have hrem := remainderWord_low (r := B.length % 4) (by omega)
  have hcover := Nat.div_add_mod B.length 4
  have hdecode := decode_tailCommand_m3X32T (r := B.length % 4) (by omega)
  have hop : Instr.m3X32T (BitVec.ofNat 4 (B.length % 4)) ≠ .wh32 := nofun
  refine (ends_lengthCall ldmuxM32_splits rfl hB).yields ?_
  simp only [hcount, hrem]
  refine (yields_murmurBlocks32 (by omega) seed).andThen fun h => ?_
  refine (yields_fetch (fetchTail_inside (by omega))).andThen fun t => ?_
  refine (yields_callOp hdecode hop).andThen fun r => ?_
  exact (yields_opRequest (i := .fmix32) rfl (by decide) ..).andThen fun f => yields_hostValue _

/-- The part that the two 128-bit functions share, for the operations of either. -/
theorem yields_murmurLanes128 {ldmux body tail : Instr} (hldmux : SplitsLength ldmux 16)
    (hldmuxWf : ldmux.wellFormed = true) (hwf : body.wellFormed = true) (hbody : body ≠ .wh32)
    (htail : ∀ r < 16, ∃ j, decode (tailCommand tail (remainderWord r)) = .ok j ∧ j ≠ .wh32)
    {B : List Byte} (hB : B.length < 2 ^ 64) (lanes : Word128Pair) :
    Yields WasReset (murmurLanes128 ldmux body tail B lanes) := by
  have hcount := blockCount_toNat hB 16
  have hrem := remainderWord_low (r := B.length % 16) (by omega)
  have hcover := Nat.div_add_mod B.length 16
  obtain ⟨j, hdecode, hj⟩ := htail (B.length % 16) (by omega)
  refine (ends_lengthCall hldmux hldmuxWf hB).yields ?_
  simp only [hcount, hrem]
  refine (yields_murmurBlocks128 hwf hbody (by omega) lanes).andThen fun h => ?_
  refine (yields_fetch (fetchTail_inside (by omega))).andThen fun t => ?_
  exact (yields_callOp hdecode hj).andThen fun r => yields_hostValue _

theorem yields_callFmix32 (h : Word32) : Yields Completed (callFmix32 h) :=
  (yields_opRequest (i := .fmix32) rfl (by decide) ..).andThen fun _ => yields_hostValue _

theorem yields_callFmix64 (k : Word64) : Yields Completed (callFmix64 k) :=
  (yields_opRequest (i := .fmix64) rfl (by decide) ..).andThen fun _ => yields_hostValue _

theorem yields_murmur3Hash128 {B : List Byte} (hB : B.length < 2 ^ 64) (seed : Word32) :
    Yields WasReset (murmur3Hash128 B seed) :=
  (yields_murmurLanes128 ldmuxM86_splits rfl rfl (by decide)
      (fun _ hr => ⟨_, decode_tailCommand_m3X86T hr, nofun⟩) hB _).andThen fun _ =>
    (yields_callFmix32 _).andThen fun _ => (yields_callFmix32 _).andThen fun _ =>
      (yields_callFmix32 _).andThen fun _ => (yields_callFmix32 _).andThen fun _ => yields_hostValue _

theorem yields_murmur3Hash128X64 {B : List Byte} (hB : B.length < 2 ^ 64) (seed : Word32) :
    Yields WasReset (murmur3Hash128X64 B seed) :=
  (yields_murmurLanes128 ldmuxM64_splits rfl rfl (by decide)
      (fun _ hr => ⟨_, decode_tailCommand_m3X64T hr, nofun⟩) hB _).andThen fun _ =>
    (yields_callFmix64 _).andThen fun _ => (yields_callFmix64 _).andThen fun _ => yields_hostValue _

theorem Yields.digest {α : Type} {p : HostRun α} (h : Yields WasReset p) :
    ∃ d, ∀ s : State, s.sawReset = true → ∃ t, p s = .next (t, d) ∧ t.phase = some .done ∧ t.status.err = false := by
  obtain ⟨d, hd⟩ := h
  refine ⟨d, fun s hs => ?_⟩
  obtain ⟨t, ht, -, hdone, herr⟩ := hd s hs
  exact ⟨t, ht, hdone, herr⟩

/-- Settles O55: each sequence is made of fetches inside the input and of transactions of legal words other than
WH32's. -/
theorem murmurSequencesArePure : Obligations.MurmurSequencesArePure := fun _ seed hB =>
  ⟨(yields_murmur3Hash32 hB seed).digest, (yields_murmur3Hash128 hB seed).digest,
    (yields_murmur3Hash128X64 hB seed).digest⟩

/-- A sequence with one digest has it on the block right after reset, where it can be computed. -/
theorem Yields.eq_of_reset {α : Type} {p : HostRun α} (h : Yields WasReset p) {d : α}
    (hd : answerOf (p State.reset) = .next d) (s : State) (hs : s.sawReset = true) : ∃ t, p s = .next (t, d) := by
  obtain ⟨d', hd'⟩ := h.digest
  obtain ⟨u, hu, -⟩ := hd' State.reset rfl
  obtain ⟨t, ht, -⟩ := hd' s hs
  rw [hu] at hd
  exact ⟨t, Host.Outcome.next.inj hd ▸ ht⟩

/-- Settles O56: the digests of the empty input on the block right after reset are 0, and they are those of every
block. -/
theorem emptyInputDigests : Obligations.EmptyInputDigests := by
  intro s hs
  have hempty : ([] : List Byte).length < 2 ^ 64 := by decide
  exact ⟨(yields_murmur3Hash32 hempty 0).eq_of_reset rfl s hs, (yields_murmur3Hash128 hempty 0).eq_of_reset rfl s hs,
    (yields_murmur3Hash128X64 hempty 0).eq_of_reset rfl s hs⟩

end Sys2Proof.Machine
end
